-- ==== Sys2Proof/Word.lean ====
section
/-! DEFINITION. The words of the core: bytes, command words, line levels (spec/00_scope.md R7). -/

namespace Sys2Proof

/-- A byte is 8 bits, bit 0 the least significant (R7). -/
abbrev Byte := BitVec 8

/-- A command word, `cmd[15:0]` (R68). -/
abbrev CmdWord := BitVec 16

/-- A line level: `true` is HIGH = 1, `false` is LOW = 0 (R7). -/
abbrev Level := Bool

end Sys2Proof
end

