-- ==== Sys2Proof/Syntax.lean ====
section
/-! DEFINITION. The 13 commands (spec/30_encoding.md R70), one constructor per row of
spec/opcode_table.json. -/

namespace Sys2Proof

/-- A command. The operand of a format I command is its `imm8` (R69, R75). -/
inductive Instr where
  | nop
  | bind
  | clr
  | blds
  /-- `b`: the payload byte to append. -/
  | putb (b : Byte)
  /-- `d`: the destination address. -/
  | blde (d : Byte)
  /-- `n`: the payload length. -/
  | setl (n : Byte)
  | vfy
  /-- `i`: the buffer index. -/
  | getb (i : Byte)
  /-- `m`: the frame length in bytes. -/
  | txf (m : Byte)
  /-- `a`: the acknowledgment byte. -/
  | txa (a : Byte)
  | rxf
  | rxa
deriving DecidableEq, Repr

/-- The causes of a command error (spec/60_exceptions.md R181). -/
inductive CmdErr where
  | illegalOpcode
  | reservedField
  | notBound
  | range
deriving DecidableEq, Repr

end Sys2Proof
end

