-- ==== Sys2Proof/Decode.lean ====
section
/-! DEFINITION. The command word: decoder and encoder (spec/30_encoding.md R68 to R71,
spec/44_system.md R156 (1), (2)). The decoder is total on the 65536 words and rejects by name. -/

namespace Sys2Proof

/-- The error codes (spec/60_exceptions.md R181). -/
def CmdErr.code : CmdErr → BitVec 3
  | .illegalOpcode => 1
  | .reservedField => 2
  | .notBound => 3
  | .range => 4

/-- `op = cmd[15:12]` (R68). -/
def opField (w : CmdWord) : BitVec 4 := w.extractLsb' 12 4

/-- `rsv = cmd[11:8]` (R68). -/
def rsvField (w : CmdWord) : BitVec 4 := w.extractLsb' 8 4

/-- `imm8 = cmd[7:0]` (R68). -/
def immField (w : CmdWord) : Byte := w.extractLsb' 0 8

/-- Format Z: `rsv` and `imm8` must be zero (R69, R71). -/
def formatZ (w : CmdWord) (i : Instr) : Except CmdErr Instr :=
  if rsvField w = 0 ∧ immField w = 0 then .ok i else .error .reservedField

/-- Format I: `rsv` must be zero, `imm8` is the operand (R69, R71). -/
def formatI (w : CmdWord) (f : Byte → Instr) : Except CmdErr Instr :=
  if rsvField w = 0 then .ok (f (immField w)) else .error .reservedField

/-- The opcode map of R70. The opcode is checked before the reserved fields (R156). -/
def decode (w : CmdWord) : Except CmdErr Instr :=
  match (opField w).toNat with
  | 0x0 => formatZ w .nop
  | 0x1 => formatZ w .bind
  | 0x2 => formatZ w .clr
  | 0x3 => formatZ w .blds
  | 0x4 => formatI w .putb
  | 0x5 => formatI w .blde
  | 0x6 => formatI w .setl
  | 0x7 => formatZ w .vfy
  | 0x8 => formatI w .getb
  | 0x9 => formatI w .txf
  | 0xA => formatI w .txa
  | 0xB => formatZ w .rxf
  | 0xC => formatZ w .rxa
  | _ => .error .illegalOpcode

/-- The word with the given opcode and operand, `rsv` zero (R68). -/
def commandWord (op : BitVec 4) (imm : Byte) : CmdWord := op ++ (0#4 ++ imm)

/-- The word of a command (R70). -/
def encode : Instr → CmdWord
  | .nop => commandWord 0x0 0
  | .bind => commandWord 0x1 0
  | .clr => commandWord 0x2 0
  | .blds => commandWord 0x3 0
  | .putb b => commandWord 0x4 b
  | .blde d => commandWord 0x5 d
  | .setl n => commandWord 0x6 n
  | .vfy => commandWord 0x7 0
  | .getb i => commandWord 0x8 i
  | .txf m => commandWord 0x9 m
  | .txa a => commandWord 0xA a
  | .rxf => commandWord 0xB 0
  | .rxa => commandWord 0xC 0

/-- A command's word is presented whole on the 16-bit command port, so an instruction's bits are the
word itself (R68); bits from `nbits` on are zero. -/
def portWord (nbits w : Nat) : CmdWord := BitVec.ofNat 16 (w % 2 ^ nbits)

/-- The instruction that the decoder reads from the word `w` of `nbits` bits. -/
def decodeTableWord (nbits w : Nat) : Option Instr :=
  match decode (portWord nbits w) with
  | .ok i => some i
  | .error _ => none

end Sys2Proof
end

