-- ==== Sys2Proof/Config.lean ====
section
/-! DEFINITION. The configuration of an instance (spec/00_scope.md R5, spec/10_state.md R10) and the
free values: what the spec leaves unspecified. -/

namespace Sys2Proof

/-- The parameters of one device, fixed at construction (R5, R10). BUF_CAP and SETTLE_US are computed
from them (Machine/Operands.lean). The two acknowledgment constants are the host's (R152). -/
structure Config where
  /-- PAYLOAD_CAP, 0 to 252. -/
  payloadCap : Nat
  /-- T_US, 1 to 65535. -/
  tUs : Nat
  /-- OWN_ADDR. -/
  ownAddr : Byte
  /-- TICKS_PER_US, at least 1. -/
  ticksPerUs : Nat
  /-- The model's own: the number of this device among the samplers of the bus; only an argument of
  the free values below, so that two devices draw independently (log 7). -/
  device : Nat
deriving DecidableEq, Repr

/-- Who looks at a line in contention: the two halves of `Sample2`, or the two level bits of the
read-port entry LINES. Each draws a level of its own (spec/20_memory.md R47 (c)). -/
inductive Sampler where
  | sigCurr
  | datCurr
  | linesClock
  | linesData
deriving DecidableEq, Repr

/-- FREE VALUE (log 6). The byte that `BUF[index]` of a device holds after its `epoch`-th reset while
nothing has written it: "any 8-bit value" (spec/10_state.md R33). -/
opaque Config.unwrittenByte (device epoch index : Nat) : Byte

/-- FREE VALUE (log 7). The level that a sample of a line in contention returns, "not necessarily the
same on two samples or for two samplers" (spec/20_memory.md R47 (c)). -/
opaque Config.contendedLevel (device : Nat) (who : Sampler) (draw : Nat) : Level

/-- FREE VALUE (log 8). What a read-port entry shows while BUSY = 1 where spec/10_state.md R27 leaves
it unspecified. -/
opaque Config.busyRead (device : Nat) (rsel : BitVec 4) (draw : Nat) : Byte

end Sys2Proof
end

