-- ==== Sys2Proof/Machine/State.lean ====
section
/-! DEFINITION. The state of one device, its reset value, and the reasons a step can stop.
Registers: spec/10_state.md R11 to R25, R31. -/

namespace Sys2Proof.Machine

/-- The two lines (spec/00_scope.md R7). -/
inductive Line where
  | clock
  | data
deriving DecidableEq, Repr

/-- What one device does to the two lines: the level latches and the directions, 1 = output
(spec/10_state.md R20). -/
structure Pads where
  clkOut : Level
  datOut : Level
  clkOe : Bool
  datOe : Bool
deriving DecidableEq, Repr

/-- The sequencer state ST (spec/10_state.md R22). "All other codes of ST are never taken": the type
has none. -/
inductive Seq where
  | idle | exec
  | tfDrive | tfStartLo | tfStartHi | tfBitData | tfBitClock | tfForce | tfNorm | tfStopLo | tfStopHi
  | taDrive | taBitData | taBitClock | taRestore
  | rfRelease | rfSeed | rfAwaitData | rfAwaitClock | rfEdgeWait | rfSettle | rfSample
  | raRelease | raSeed | raAwaitClock
deriving DecidableEq, Repr

/-- What the input ports show in one tick (spec/10_state.md R28). `clk_i` and `dat_i` are the resolved
bus levels; they follow from this device's pads and from `peers`, the pads of every other device on
the bus in that tick (spec/20_memory.md R47). -/
structure PortIn where
  rst : Bool
  cmdValid : Bool
  cmd : CmdWord
  rsel : BitVec 4
  peers : List Pads
deriving DecidableEq, Repr

/-- The ports of a tick for which nothing was supplied: no reset, no command, nobody else drives. -/
def PortIn.quiet : PortIn := ⟨false, false, 0, 0, []⟩

/-- The written bytes of the frame buffer, addresses strictly rising. An unlisted byte has no value
of its own (spec/10_state.md R33). -/
abbrev Memory := List Host.Cell

/-- One device: every register of spec/10_state.md, the hidden state of a running command, the
configuration, the inputs to come and the model's two counters. -/
@[ext]
structure State where
  /-- The configuration (R10); no step changes it (log 1). -/
  cfg : Config
  /-- BUF (R11). -/
  buf : Memory
  /-- LEN (R12). -/
  len : Byte
  /-- SUM1 (R13). -/
  sum1 : Byte
  /-- SUM2 (R13). -/
  sum2 : Byte
  /-- SIGPREV (R14). -/
  sigPrev : Level
  /-- DATPREV (R14). -/
  datPrev : Level
  /-- SIGCURR (R14). -/
  sigCurr : Level
  /-- DATCURR (R14). -/
  datCurr : Level
  /-- FRAMEEND (R15). -/
  frameEnd : Bool
  /-- BYTEIDX (R16). -/
  byteIdx : Byte
  /-- BITIDX (R16). -/
  bitIdx : BitVec 3
  /-- PHASE (R17). -/
  phase : Level
  /-- ACKV (R18). -/
  ackv : Byte
  /-- DOUT (R19). -/
  dout : Byte
  /-- CLKOUT, DATOUT, CLKOE, DATOE (R20). -/
  pads : Pads
  /-- DLYCNT (R21). -/
  dlyCnt : Nat
  /-- ST (R22). -/
  st : Seq
  /-- CMDR (R23). -/
  cmdr : CmdWord
  /-- BUSY (R24). -/
  busy : Bool
  /-- BOUND (R24). -/
  bound : Bool
  /-- CSOK (R24). -/
  csok : Bool
  /-- OVF (R24). -/
  ovf : Bool
  /-- SHORT (R24). -/
  short : Bool
  /-- ERR (R24). -/
  err : Bool
  /-- ERRCODE (R25). -/
  errCode : BitVec 3
  /-- The index `i` of the byte loops of CLR, BLDS and VFY (R83, R84, R89, R224; log 9). -/
  loopIdx : Nat
  /-- `s1` of VFY (R89; log 9). -/
  acc1 : Byte
  /-- `s2` of VFY (R89; log 9). -/
  acc2 : Byte
  /-- The model's own: ticks so far, the argument of the per-sample free values (log 7). -/
  draws : Nat
  /-- The model's own: reset ticks so far, the argument of the unwritten bytes (log 6). -/
  resets : Nat
  /-- What the input ports show in this tick and the next ones, oldest first; past its end the ports
  are quiet (R28; log 3). -/
  env : List PortIn
deriving DecidableEq, Repr

/-- Why the machine stops. -/
inductive Fault where
  /-- Raised by a codec command, TXF or RXF on a buffer index outside `0 .. BUF_CAP - 1`, which
  spec/20_memory.md R42 says is never formed. Safe: no run from reset reaches it (log 10). -/
  | bufIndex (index : Nat)
  /-- Raised by `step` when BUSY = 1 and CMDR holds no command word, which spec/44_system.md R155
  rules out. Safe: no run from reset reaches it (log 11). -/
  | strayCommand
deriving DecidableEq, Repr

/-- Why the model declines a step. -/
inductive Refusal where
  /-- An arm of `exec` without a meaning yet. Safe: the model says nothing of the instruction. No arm
  answers it now. -/
  | notModelled (mnemonic : String)
deriving DecidableEq, Repr

/-- Both lines inputs, latches HIGH (R20, R31). -/
def Pads.reset : Pads := ⟨true, true, false, false⟩

/-- Every register at its reset value (R31, R201), for a device of configuration `c` after `n` reset
ticks and `k` ticks in all, with the inputs `env` still to come. -/
def State.resetOf (c : Config) (k n : Nat) (env : List PortIn) : State where
  cfg := c
  buf := []
  len := 0
  sum1 := 0
  sum2 := 0
  sigPrev := false
  datPrev := false
  sigCurr := false
  datCurr := false
  frameEnd := false
  byteIdx := 0
  bitIdx := 0
  phase := false
  ackv := 0
  dout := 0
  pads := Pads.reset
  dlyCnt := 0
  st := .idle
  cmdr := 0
  busy := false
  bound := false
  csok := false
  ovf := false
  short := false
  err := false
  errCode := 0
  loopIdx := 0
  acc1 := 0
  acc2 := 0
  draws := k
  resets := n
  env := env

/-- The configuration of `State.reset` (log 2): PAYLOAD_CAP and T_US at DOC's constructor defaults (R5),
and, where R5 gives no default, the address 9 of DOC's receiving device and one tick a microsecond. -/
def resetConfig : Config := ⟨100, 50, 9, 1, 0⟩

/-- The device right after reset, with no input supplied (R31, R201; log 2, log 3). -/
def State.reset : State := State.resetOf resetConfig 0 0 []

end Sys2Proof.Machine
end

