-- ==== Sys2Proof/Machine/Bus.lean ====
section
/-! DEFINITION. The two-wire bus: the level of a line from the devices that drive it
(spec/20_memory.md R47). -/

namespace Sys2Proof.Machine

/-- What a line shows, given its drivers (R47). -/
inductive BusLevel where
  /-- No driver. -/
  | released
  /-- Every driver drives `v`. -/
  | agreed (v : Level)
  /-- Two drivers drive different values. -/
  | contention
deriving DecidableEq, Repr

/-- The value a device drives on a line, if it drives it (R20, R47). -/
def Pads.drives (p : Pads) : Line → Option Level
  | .clock => if p.clkOe then some p.clkOut else none
  | .data => if p.datOe then some p.datOut else none

/-- The values driven on a line by the devices of the bus (R47). -/
def drivers (l : Line) (ps : List Pads) : List Level := ps.filterMap fun p => p.drives l

/-- The three cases of R47. -/
def resolve : List Level → BusLevel
  | [] => .released
  | v :: vs => if vs.all fun x => x == v then .agreed v else .contention

/-- `Level(L)` as a sample returns it: HIGH when released, the agreed value, and in contention a level
drawn for this sample (R47). -/
def BusLevel.sampled (draw : Level) : BusLevel → Level
  | .released => true
  | .agreed v => v
  | .contention => draw

/-- The inputs of the present tick. -/
def State.port (s : State) : PortIn := s.env.headD PortIn.quiet

/-- What a line shows in the present tick: this device's registers as they stand before the tick, and
the pads of the others (R47, R48). -/
def State.busLevel (s : State) (l : Line) : BusLevel := resolve (drivers l (s.pads :: s.port.peers))

/-- A sample of a line in the present tick (R47). -/
def State.levelAs (s : State) (who : Sampler) (l : Line) : Level :=
  (s.busLevel l).sampled (Config.contendedLevel s.cfg.device who s.draws)

end Sys2Proof.Machine
end

