-- ==== Sys2Proof/Machine/Flags.lean ====
section
/-! DEFINITION. Checksum arithmetic and flag computations: the checksum step, the comparison of VFY,
the stop condition, the STATUS byte (spec/40_frame_codec.md R80, R89; spec/42_receiver.md R128;
spec/10_state.md R24, R26). -/

namespace Sys2Proof.Machine

/-- A 9-bit sum, then `mod 255` (R80, R82). -/
def sumMod255 (x y : Byte) : Byte := BitVec.ofNat 8 ((x.toNat + y.toNat) % 255)

/-- One checksum step: the second sum takes the first sum just computed (R80). -/
def csumStep (p : Byte × Byte) (b : Byte) : Byte × Byte :=
  (sumMod255 p.1 b, sumMod255 (sumMod255 p.1 b) p.2)

/-- The checksum of a byte sequence, from the pair (0, 0) (R81). -/
def csum (bs : List Byte) : Byte × Byte := bs.foldl csumStep (0, 0)

/-- CSOK: both stored bytes equal the recomputed pair (R89). -/
def csumMatches (p : Byte × Byte) (stored1 stored2 : Byte) : Bool := p.1 == stored1 && p.2 == stored2

/-- The stop condition, on the saved levels and the levels just sampled (R128). -/
def stopCondition (s : State) : Bool := !s.datCurr && s.datPrev && s.sigPrev && s.sigCurr

/-- An edge event: a fresh sample differs from the saved level on either line (R125). -/
def edgeEvent (s : State) : Bool := s.sigCurr != s.sigPrev || s.datCurr != s.datPrev

/-- STATUS: bits 0 to 6 are BUSY, BOUND, CSOK, FRAMEEND, OVF, SHORT, ERR; bit 7 is 0 (R24, R26). -/
def statusByte (s : State) : Byte :=
  BitVec.ofBool false ++ BitVec.ofBool s.err ++ BitVec.ofBool s.short ++ BitVec.ofBool s.ovf
    ++ BitVec.ofBool s.frameEnd ++ BitVec.ofBool s.csok ++ BitVec.ofBool s.bound ++ BitVec.ofBool s.busy

/-- EDGE: SIGPREV, DATPREV, SIGCURR, DATCURR, PHASE in bits 0 to 4, zero above (R26). -/
def edgeByte (s : State) : Byte :=
  0#3 ++ BitVec.ofBool s.phase ++ BitVec.ofBool s.datCurr ++ BitVec.ofBool s.sigCurr
    ++ BitVec.ofBool s.datPrev ++ BitVec.ofBool s.sigPrev

/-- LINES, given the two sampled levels: CLKOUT, DATOUT, CLKOE, DATOE, Level(CLOCK), Level(DATA) in
bits 0 to 5, zero above (R26). -/
def linesByte (p : Pads) (clk dat : Level) : Byte :=
  0#2 ++ BitVec.ofBool dat ++ BitVec.ofBool clk ++ BitVec.ofBool p.datOe ++ BitVec.ofBool p.clkOe
    ++ BitVec.ofBool p.datOut ++ BitVec.ofBool p.clkOut

end Sys2Proof.Machine
end

