-- ==== Sys2Proof/Machine/Operands.lean ====
section
/-! DEFINITION. Operand forms: the parameters computed from the configuration, bits of a byte, and the
ranges that acceptance checks (spec/00_scope.md R5, spec/20_memory.md R57, spec/44_system.md R156). -/

namespace Sys2Proof.Machine

/-- `BUF_CAP = PAYLOAD_CAP + 3` (R5). -/
def bufCap (c : Config) : Nat := c.payloadCap + 3

/-- `TF = T_US * TICKS_PER_US`, the ticks of one hold (R9, R108). -/
def holdTicks (c : Config) : Nat := c.tUs * c.ticksPerUs

/-- `SETTLE_US = floor(T_US / 3)` (R5, R126). -/
def settleUs (c : Config) : Nat := c.tUs / 3

/-- `SF = SETTLE_US * TICKS_PER_US`, the ticks of the settle delay (R126). -/
def settleTicks (c : Config) : Nat := settleUs c * c.ticksPerUs

/-- `T_US` as the 16-bit constant of the read port (R26). -/
def halfPeriodWord (c : Config) : BitVec 16 := BitVec.ofNat 16 c.tUs

/-- Bit `i` of a byte, `b[i]` (R7). -/
def bitOf (b : Byte) (i : BitVec 3) : Level := b.getLsbD i.toNat

/-- The byte with bit `i` set to `v` and the other seven bits unchanged (R43). -/
def setBit (b : Byte) (i : BitVec 3) (v : Level) : Byte :=
  if v then b ||| (1#8 <<< i.toNat) else b &&& ~~~(1#8 <<< i.toNat)

/-- A line command: TXF, TXA, RXF or RXA, refused while BOUND = 0 (R156 (3)). -/
def isLineCommand : Instr → Bool
  | .txf _ => true
  | .txa _ => true
  | .rxf => true
  | .rxa => true
  | .nop => false
  | .bind => false
  | .clr => false
  | .blds => false
  | .putb _ => false
  | .blde _ => false
  | .setl _ => false
  | .vfy => false
  | .getb _ => false

/-- The range check, on numbers that do not wrap (R156 (4)). -/
def inRange (c : Config) : Instr → Bool
  | .setl n => decide (n.toNat ≤ c.payloadCap)
  | .getb i => decide (i.toNat < bufCap c)
  | .txf m => decide (m.toNat ≤ bufCap c)
  | .nop => true
  | .bind => true
  | .clr => true
  | .blds => true
  | .putb _ => true
  | .blde _ => true
  | .vfy => true
  | .txa _ => true
  | .rxf => true
  | .rxa => true

/-- The first sequencer state of a command (R22, R155). -/
def firstState : Instr → Seq
  | .txf _ => .tfDrive
  | .txa _ => .taDrive
  | .rxf => .rfRelease
  | .rxa => .raRelease
  | .nop => .exec
  | .bind => .exec
  | .clr => .exec
  | .blds => .exec
  | .putb _ => .exec
  | .blde _ => .exec
  | .setl _ => .exec
  | .vfy => .exec
  | .getb _ => .exec

/-- The codes of ST (R22). -/
def Seq.code : Seq → BitVec 6
  | .idle => 0x00
  | .exec => 0x01
  | .tfDrive => 0x10
  | .tfStartLo => 0x11
  | .tfStartHi => 0x12
  | .tfBitData => 0x13
  | .tfBitClock => 0x14
  | .tfForce => 0x15
  | .tfNorm => 0x16
  | .tfStopLo => 0x17
  | .tfStopHi => 0x18
  | .taDrive => 0x20
  | .taBitData => 0x21
  | .taBitClock => 0x22
  | .taRestore => 0x23
  | .rfRelease => 0x30
  | .rfSeed => 0x31
  | .rfAwaitData => 0x32
  | .rfAwaitClock => 0x33
  | .rfEdgeWait => 0x34
  | .rfSettle => 0x35
  | .rfSample => 0x36
  | .raRelease => 0x38
  | .raSeed => 0x39
  | .raAwaitClock => 0x3A

/-- Index of PUTB: `BUF[LEN]` (R57 (b), R85). -/
def putIndex (s : State) : Nat := s.len.toNat

/-- Indices of the trailer: `LEN`, `LEN + 1`, `LEN + 2`, which do not wrap (R41, R57 (b)). -/
def trailerIndex (s : State) (k : Nat) : Nat := s.len.toNat + k

/-- Index of TXF and RXF: `BUF[BYTEIDX]` (R57 (d), (e)). -/
def positionIndex (s : State) : Nat := s.byteIdx.toNat

end Sys2Proof.Machine
end

