-- ==== Sys2Proof/Machine/Ops.lean ====
section
/-! DEFINITION. The named operations over the buffer, the registers, the lines and the sequencer:
the primitives of spec/00_scope.md R9, command acceptance (spec/44_system.md R155) and the command
error (spec/60_exceptions.md R183). -/

namespace Sys2Proof.Machine

/-- The answer of a step of this machine. -/
abbrev Answer := Host.Outcome State Fault Refusal

/-! ## The frame buffer -/

/-- The byte listed at an index, if one is. -/
def Memory.lookup : Memory → Nat → Option Byte
  | [], _ => none
  | (a, v) :: m, i => if a = i then some v else Memory.lookup m i

/-- The list with index `i` holding `v`, kept in rising order. -/
def Memory.store : Memory → Nat → Byte → Memory
  | [], i, v => [(i, v)]
  | (a, b) :: m, i, v =>
    if i < a then (i, v) :: (a, b) :: m
    else if i = a then (i, v) :: m
    else (a, b) :: Memory.store m i v

/-- Every address of the list lies above `lo`, and they rise strictly. -/
def Memory.rising : Nat → Memory → Bool
  | _, [] => true
  | lo, (a, _) :: m => decide (lo ≤ a) && Memory.rising (a + 1) m

/-- The canonical form: addresses strictly rising. An unlisted byte has no value, so no entry can
equal what an unlisted address reads as. -/
def Memory.wf (m : Memory) : Bool := Memory.rising 0 m

/-- The one definition of what an unlisted byte reads as: a free value, the same until the next reset
(R11, R33; log 6). -/
def State.unwritten (s : State) (i : Nat) : Byte := Config.unwrittenByte s.cfg.device s.resets i

/-- `BUF[i]` (R42). -/
def State.byteAt (s : State) (i : Nat) : Byte := (Memory.lookup s.buf i).getD (s.unwritten i)

/-- `BUF[i] <- v` (R42). -/
def State.putByte (s : State) (i : Nat) (v : Byte) : State := { s with buf := Memory.store s.buf i v }

/-- `BUF[i][j] <- b`, a read-modify-write of one byte (R43). -/
def State.putBit (s : State) (i : Nat) (j : BitVec 3) (b : Level) : State :=
  s.putByte i (setBit (s.byteAt i) j b)

/-- Go on where the index exists, stop where it does not (R42: `0 ≤ i < BUF_CAP`; log 10). -/
def withIndex (s : State) (i : Nat) (k : Answer) : Answer :=
  if i < bufCap s.cfg then k else .fault (.bufIndex i)

/-- The bytes `BUF[0 .. n-1]` in order. -/
def State.bytes (s : State) (n : Nat) : List Byte := (List.range n).map s.byteAt

/-! ## The lines (R9, R20) -/

/-- `DriveBothHigh()`. -/
def State.driveBothHigh (s : State) : State := { s with pads := ⟨true, true, true, true⟩ }

/-- `WriteLevel(CLOCK, v)`. -/
def State.writeClock (s : State) (v : Level) : State := { s with pads := { s.pads with clkOut := v } }

/-- `WriteLevel(DATA, v)`. -/
def State.writeData (s : State) (v : Level) : State := { s with pads := { s.pads with datOut := v } }

/-- `WriteBothHigh()`. -/
def State.writeBothHigh (s : State) : State := { s with pads := { s.pads with clkOut := true, datOut := true } }

/-- `ReleaseBoth()`. -/
def State.releaseBoth (s : State) : State := { s with pads := { s.pads with clkOe := false, datOe := false } }

/-- `Sample2()`: both lines in the same tick (R9, R48). -/
def State.sample2 (s : State) : State :=
  { s with sigCurr := s.levelAs .sigCurr .clock, datCurr := s.levelAs .datCurr .data }

/-- `SIGPREV <- SIGCURR; DATPREV <- DATCURR` (R122, R129, R147). -/
def State.saveEdge (s : State) : State := { s with sigPrev := s.sigCurr, datPrev := s.datCurr }

/-! ## The sequencer -/

/-- `ST <- q` (R9). -/
def State.goto (s : State) (q : Seq) : State := { s with st := q }

/-- `done`: `ST <- IDLE; BUSY <- 0` (R9). -/
def State.done (s : State) : State := { s with st := .idle, busy := false }

/-- `Delay` of `n` ticks after a micro-operation: DLYCNT is loaded in this tick, and `after` happens
in the tick in which it reaches 0; a delay of no ticks takes none (R9, R21). -/
def State.delay (s : State) (n : Nat) (after : State → State) : State :=
  if n = 0 then after s else { s with dlyCnt := n }

/-- One tick of a delay: DLYCNT decreases by 1; when it reaches 0 the sequencer moves on, so that the
next micro-operation executes in the next tick (R21). -/
def State.countDown (s : State) (after : State → State) : State :=
  if s.dlyCnt = 1 then after { s with dlyCnt := 0 } else { s with dlyCnt := s.dlyCnt - 1 }

/-- TAKING THE ONE EXCEPTION of this hardware, `raise CmdError(code)`: ERR is set, ERRCODE keeps the
first code since reset, the command is not executed and nothing else changes (R183, R184). There is
no return from it: "Nothing is saved and there is nothing to return from". -/
def State.cmdError (s : State) (e : CmdErr) : State :=
  { s with err := true, errCode := if s.err then s.errCode else e.code }

/-- A command passes: CMDR, BUSY and ST are written (R155); the loop state of a codec command starts
at its beginning (log 9). -/
def State.latch (s : State) (i : Instr) : State :=
  { s with cmdr := encode i, busy := true, st := firstState i, loopIdx := 0, acc1 := 0, acc2 := 0 }

/-- The accepting tick of a decoded command: the bound check, then the range check, then the latch
(R155, R156 (3), (4)). -/
def State.accept (s : State) (i : Instr) : State :=
  if isLineCommand i && !s.bound then s.cmdError .notBound
  else if !inRange s.cfg i then s.cmdError .range
  else s.latch i

/-- One tick of command `i` (R155, R159): an idle core accepts it; a busy core counts down a pending
delay, after which `after` happens, or else executes the micro-operation `uop` (log 5). -/
def commandTick (i : Instr) (after : State → State) (uop : State → Answer) (s : State) : Answer :=
  if s.busy then
    if s.dlyCnt = 0 then uop s else .next (s.countDown after)
  else .next (s.accept i)

/-- A micro-operation of state EXEC; in the state of another command nothing happens (log 20). -/
def inExec (uop : State → Answer) (s : State) : Answer :=
  match s.st with
  | .exec => uop s
  | _ => .next s

/-- One tick of a codec or system command: it has no delay and executes in state EXEC (R22, R224). -/
def execTick (i : Instr) (uop : State → Answer) (s : State) : Answer := commandTick i id (inExec uop) s

/-- A tick with `rst = 1`: every register takes its reset value; the configuration stays (R200). -/
def State.resetTick (s : State) : State := State.resetOf s.cfg s.draws (s.resets + 1) s.env

/-- The end of a tick: the inputs of this tick are past, and the next sample draws anew. -/
def State.endTick (s : State) : State := { s with env := s.env.tail, draws := s.draws + 1 }

/-- A next state, changed. -/
def onNext (f : State → State) : Answer → Answer
  | .next s => .next (f s)
  | .fault r => .fault r
  | .refused r => .refused r

end Sys2Proof.Machine
end

