-- ==== Sys2Proof/Machine/Transmitter.lean ====
section
/-! DEFINITION. The frame transmitter TXF (spec/41_transmitter.md R100 to R111). -/

namespace Sys2Proof.Machine

/-- The loop test `while BYTEIDX < m` (R103, R108). -/
def txfLoop (m : Byte) (s : State) : State :=
  if s.byteIdx.toNat < m.toNat then s.goto .tfBitData else s.goto .tfForce

/-- Where TXF goes after the hold of each state (R108); the clock is normalised only when the last
phase written was LOW, that is when PHASE = 1 (R105). -/
def txfAfter (m : Byte) (s : State) : State :=
  match s.st with
  | .tfDrive => s.goto .tfStartLo
  | .tfStartLo => s.goto .tfStartHi
  | .tfStartHi => txfLoop m s
  | .tfBitClock => txfLoop m s
  | .tfForce => if s.phase then s.goto .tfNorm else s.goto .tfStopLo
  | .tfNorm => s.goto .tfStopLo
  | .tfStopLo => s.goto .tfStopHi
  | .tfStopHi => s.done
  | _ => s

/-- The bit position advances: BITIDX from 7 down to 0, then the next byte (R16, R103, R129). -/
def State.advanceBit (s : State) : State :=
  { s with
    bitIdx := if s.bitIdx = 0 then 7 else s.bitIdx - 1
    byteIdx := if s.bitIdx = 0 then s.byteIdx + 1 else s.byteIdx }

/-- `WriteLevel(CLOCK, PHASE)` and, in the same tick, the phase flips (R103, R142). -/
def State.clockPhase (s : State) : State := { s.writeClock s.phase with phase := !s.phase }

/-- `Delay(T_US)` in TXF. -/
def txfHold (m : Byte) (s : State) : Answer := .next (s.delay (holdTicks s.cfg) (txfAfter m))

/-- The micro-operation of each state of TXF (R101 to R108). -/
def txfUop (m : Byte) (s : State) : Answer :=
  match s.st with
  | .tfDrive => txfHold m s.driveBothHigh
  | .tfStartLo => txfHold m (s.writeData false)
  | .tfStartHi => txfHold m { s.writeData true with phase := false, byteIdx := 0, bitIdx := 7 }
  | .tfBitData =>
    withIndex s (positionIndex s)
      (.next ((s.writeData (bitOf (s.byteAt (positionIndex s)) s.bitIdx)).goto .tfBitClock))
  | .tfBitClock => txfHold m s.clockPhase.advanceBit
  | .tfForce => txfHold m (s.writeData true)
  | .tfNorm => txfHold m (s.writeClock true)
  | .tfStopLo => txfHold m (s.writeData false)
  | .tfStopHi => txfHold m (s.writeData true)
  | _ => .next s

/-- `TXF m`: transmit `BUF[0 .. m-1]` (R100). -/
def execTxf (m : Byte) (s : State) : Answer := commandTick (.txf m) (txfAfter m) (txfUop m) s

end Sys2Proof.Machine
end

