-- ==== Sys2Proof/Machine/Acknowledgment.lean ====
section
/-! DEFINITION. The acknowledgment sub-codec TXA, RXA (spec/43_acknowledgment.md R140 to R149). -/

namespace Sys2Proof.Machine

/-- Where TXA goes after a hold (R144). After the eighth bit BITIDX has stayed 0 and PHASE is back at
0; after every earlier bit one of the two is not 0 (R142, R143; log 12). -/
def txaAfter (s : State) : State :=
  match s.st with
  | .taDrive => s.goto .taBitData
  | .taBitClock => if s.bitIdx = 0 ∧ s.phase = false then s.goto .taRestore else s.goto .taBitData
  | _ => s

/-- The bit counter of an acknowledgment: BITIDX counts down and stays at 0 (R142). -/
def State.ackBitDown (s : State) : State := { s with bitIdx := if s.bitIdx = 0 then 0 else s.bitIdx - 1 }

/-- The micro-operation of each state of TXA (R141 to R144). -/
def txaUop (a : Byte) (s : State) : Answer :=
  match s.st with
  | .taDrive =>
    .next ({ s.driveBothHigh with phase := false, bitIdx := 7 }.delay (2 * holdTicks s.cfg) txaAfter)
  | .taBitData => .next ((s.writeData (bitOf a s.bitIdx)).goto .taBitClock)
  | .taBitClock => .next (s.clockPhase.ackBitDown.delay (holdTicks s.cfg) txaAfter)
  | .taRestore => .next s.writeBothHigh.done
  | _ => .next s

/-- `TXA a`: transmit one acknowledgment byte (R140). -/
def execTxa (a : Byte) (s : State) : Answer := commandTick (.txa a) txaAfter (txaUop a) s

/-- A CLOCK toggle seen by RXA: DATA of the same sample is the bit, the levels are saved, and the
eighth toggle ends the command (R147, R148). -/
def rxaStore (s : State) : State :=
  let t := { s.saveEdge with ackv := setBit s.ackv s.bitIdx s.datCurr }
  if s.bitIdx = 0 then t.done else { t with bitIdx := s.bitIdx - 1 }

/-- The micro-operation of each state of RXA (R146 to R149). -/
def rxaUop (s : State) : Answer :=
  match s.st with
  | .raRelease => .next ({ s.releaseBoth with ackv := 0, bitIdx := 7 }.goto .raSeed)
  | .raSeed => .next (s.sample2.saveEdge.goto .raAwaitClock)
  | .raAwaitClock =>
    let t := s.sample2
    .next (if t.sigCurr != t.sigPrev then rxaStore t else t)
  | _ => .next s

/-- `RXA`: receive one acknowledgment byte into ACKV (R145). -/
def execRxa (s : State) : Answer := commandTick .rxa id rxaUop s

end Sys2Proof.Machine
end

