-- ==== Sys2Proof/Machine/Codec.lean ====
section
/-! DEFINITION. The frame codec: CLR, BLDS, PUTB, BLDE, SETL, VFY, GETB
(spec/40_frame_codec.md R83 to R90; ticks: spec/70_reset_and_hazards.md R224). -/

namespace Sys2Proof.Machine

/-- One tick of the clearing loop `for i = 0 .. BUF_CAP-1: BUF[i] <- 0`, index ascending, done with
the last byte (R83, R224). -/
def clearTick (s : State) : Answer :=
  withIndex s s.loopIdx
    (let t := s.putByte s.loopIdx 0
     .next (if s.loopIdx + 1 < bufCap s.cfg then { t with loopIdx := s.loopIdx + 1 } else t.done))

/-- `CLR`: clears the buffer and nothing else (R83). -/
def execClr (s : State) : Answer := execTick .clr clearTick s

/-- `BLDS`: LEN, SUM1 and SUM2 are cleared in the first tick, the buffer as by CLR (R84, R224). -/
def bldsTick (s : State) : Answer :=
  clearTick (if s.loopIdx = 0 then { s with len := 0, sum1 := 0, sum2 := 0 } else s)

/-- `BLDS` (R84). -/
def execBlds (s : State) : Answer := execTick .blds bldsTick s

/-- `PUTB b`: store at LEN, one checksum step, LEN grows by one; dropped when there is no room (R85). -/
def putbTick (b : Byte) (s : State) : State :=
  if s.len.toNat < s.cfg.payloadCap then
    let p := csumStep (s.sum1, s.sum2) b
    { s.putByte (putIndex s) b with sum1 := p.1, sum2 := p.2, len := s.len + 1 }
  else s

/-- `PUTB b` (R85). -/
def execPutb (b : Byte) (s : State) : Answer := execTick (.putb b) (fun s => .next (putbTick b s).done) s

/-- `BLDE d`: the trailer SUM1, SUM2, d at LEN, LEN + 1, LEN + 2 (R86). -/
def bldeTick (d : Byte) (s : State) : State :=
  ((s.putByte (trailerIndex s 0) s.sum1).putByte (trailerIndex s 1) s.sum2).putByte (trailerIndex s 2) d

/-- `BLDE d` (R86). -/
def execBlde (d : Byte) (s : State) : Answer :=
  execTick (.blde d) (fun s => withIndex s (trailerIndex s 2) (.next (bldeTick d s).done)) s

/-- `SETL n`: `LEN <- n` (R88). -/
def execSetl (n : Byte) (s : State) : Answer := execTick (.setl n) (fun s => .next { s with len := n }.done) s

/-- One checksum step of VFY over `BUF[i]` (R89). -/
def vfyStep (s : State) : State :=
  let p := csumStep (s.acc1, s.acc2) (s.byteAt s.loopIdx)
  { s with acc1 := p.1, acc2 := p.2, loopIdx := s.loopIdx + 1 }

/-- The last tick of VFY: SUM1, SUM2 take the recomputed pair, CSOK the comparison with the two
trailing checksum bytes (R89). -/
def vfyFinish (s : State) : State :=
  { s with
    sum1 := s.acc1
    sum2 := s.acc2
    csok := csumMatches (s.acc1, s.acc2) (s.byteAt (trailerIndex s 0)) (s.byteAt (trailerIndex s 1)) }

/-- One tick of VFY: LEN checksum steps, then the comparison (R89, R224). -/
def vfyTick (s : State) : Answer :=
  if s.loopIdx < s.len.toNat then withIndex s s.loopIdx (.next (vfyStep s))
  else withIndex s (trailerIndex s 1) (.next (vfyFinish s).done)

/-- `VFY` (R89). -/
def execVfy (s : State) : Answer := execTick .vfy vfyTick s

/-- `GETB i`: `DOUT <- BUF[i]` (R90). -/
def execGetb (i : Byte) (s : State) : Answer :=
  execTick (.getb i)
    (fun s => withIndex s i.toNat (.next { s with dout := s.byteAt i.toNat }.done)) s

end Sys2Proof.Machine
end

