-- ==== Sys2Proof/Machine/Receiver.lean ====
section
/-! DEFINITION. The frame receiver RXF (spec/42_receiver.md R120 to R133). -/

namespace Sys2Proof.Machine

/-- Entry: both lines released, position and result flags cleared (R121). -/
def rxfEntry (s : State) : State :=
  { s.releaseBoth with byteIdx := 0, bitIdx := 7, frameEnd := false, ovf := false, short := false }

/-- Done: the payload length is the number of complete bytes less three, or 0 with SHORT for a runt
(R130). -/
def rxfFinish (s : State) : State :=
  { s with
    len := if 3 ≤ s.byteIdx.toNat then s.byteIdx - 3 else 0
    short := if 3 ≤ s.byteIdx.toNat then s.short else true }.done

/-- The overflow guard after a stored bit (R129): BYTEIDX ≥ BUF_CAP ends the frame with OVF. -/
def rxfGuard (s : State) : State :=
  if bufCap s.cfg ≤ s.byteIdx.toNat then rxfFinish { s with frameEnd := true, ovf := true }
  else s.goto .rfEdgeWait

/-- Storing a bit: the levels are saved first, and the value just saved is the bit (R129). -/
def rxfStore (s : State) : State :=
  rxfGuard (s.saveEdge.putBit (positionIndex s) s.bitIdx s.datCurr).advanceBit

/-- RF_SAMPLE, after the sample: the stop condition ends the frame without a save or a store; otherwise
one bit is stored (R128, R129). -/
def rxfDecide (s : State) : Answer :=
  if stopCondition s then .next (rxfFinish { s with frameEnd := true })
  else withIndex s (positionIndex s) (.next (rxfStore s))

/-- Where RXF goes after the settle delay (R126, R133). -/
def rxfAfter (s : State) : State :=
  match s.st with
  | .rfSettle => s.goto .rfSample
  | _ => s

/-- An edge event was seen: RF_SETTLE for the settle delay, which takes no tick when it is 0
(R126, R137 (g), R221). -/
def rxfSettle (s : State) : State := (s.goto .rfSettle).delay (settleTicks s.cfg) rxfAfter

/-- The micro-operation of each state of RXF (R121 to R130, R133). -/
def rxfUop (s : State) : Answer :=
  match s.st with
  | .rfRelease => .next ((rxfEntry s).goto .rfSeed)
  | .rfSeed => .next (s.sample2.saveEdge.goto .rfAwaitData)
  | .rfAwaitData =>
    let t := s.sample2
    .next (if t.datCurr != t.datPrev then t.goto .rfAwaitClock else t)
  | .rfAwaitClock =>
    let t := s.sample2
    .next (if t.sigCurr != t.sigPrev then t.goto .rfEdgeWait else t)
  | .rfEdgeWait =>
    let t := s.sample2
    .next (if edgeEvent t then rxfSettle t else t)
  | .rfSettle => .next (rxfAfter s)
  | .rfSample => rxfDecide s.sample2
  | _ => .next s

/-- `RXF`: receive one frame into the buffer (R120). -/
def execRxf (s : State) : Answer := commandTick .rxf rxfAfter rxfUop s

end Sys2Proof.Machine
end

