-- ==== Sys2Proof/Machine/SystemCommands.lean ====
section
/-! DEFINITION. The system commands NOP and BIND (spec/44_system.md R157, R158). -/

namespace Sys2Proof.Machine

/-- `NOP`: one tick in EXEC that changes nothing (R157). -/
def execNop (s : State) : Answer := execTick .nop (fun s => .next s.done) s

/-- `BIND`: `BOUND <- 1`, idempotent; the lines are not touched (R158). -/
def execBind (s : State) : Answer := execTick .bind (fun s => .next { s with bound := true }.done) s

end Sys2Proof.Machine
end

