-- ==== Sys2Proof/Machine/Dispatch.lean ====
section
/-! DEFINITION. One arm per command of spec/opcode_table.json. -/

namespace Sys2Proof.Machine

/-- One tick of command `i` (log 5). -/
def exec (i : Instr) (s : State) : Host.Outcome State Fault Refusal :=
  match i with
  | .nop => Sys2Proof.Machine.execNop s
  | .bind => Sys2Proof.Machine.execBind s
  | .clr => Sys2Proof.Machine.execClr s
  | .blds => Sys2Proof.Machine.execBlds s
  | .putb b => Sys2Proof.Machine.execPutb b s
  | .blde d => Sys2Proof.Machine.execBlde d s
  | .setl n => Sys2Proof.Machine.execSetl n s
  | .vfy => Sys2Proof.Machine.execVfy s
  | .getb k => Sys2Proof.Machine.execGetb k s
  | .txf m => Sys2Proof.Machine.execTxf m s
  | .txa a => Sys2Proof.Machine.execTxa a s
  | .rxf => Sys2Proof.Machine.execRxf s
  | .rxa => Sys2Proof.Machine.execRxa s

end Sys2Proof.Machine
end

