-- ==== Sys2Proof/Machine/Fetch.lean ====
section
/-! DEFINITION. What the sequencer does in a tick: reset, the command on the port, the command in CMDR,
or nothing (spec/44_system.md R155, R156; spec/70_reset_and_hazards.md R200). -/

namespace Sys2Proof.Machine

/-- What a tick is about. -/
inductive TickWork where
  /-- `rst = 1`. -/
  | reset
  /-- One tick of this command: offered on the port of an idle core, or running. -/
  | command (i : Instr)
  /-- The offered word fails the decoder's checks. -/
  | badWord (e : CmdErr)
  /-- An idle core and no word. -/
  | nothing
  /-- A busy core whose CMDR holds no command; no run reaches it (log 11). -/
  | stray
deriving DecidableEq, Repr

/-- A decoded word on the port (R155, R156). -/
def offered : Except CmdErr Instr → TickWork
  | .ok i => .command i
  | .error e => .badWord e

/-- The running command (R159). -/
def running : Except CmdErr Instr → TickWork
  | .ok i => .command i
  | .error _ => .stray

/-- Reset overrides everything; a busy core looks at CMDR and never at the port; an idle core takes
the word on the port, if one is valid (R155, R187, R200). -/
def State.work (s : State) : TickWork :=
  if s.port.rst then .reset
  else if s.busy then running (decode s.cmdr)
  else if s.port.cmdValid then offered (decode s.port.cmd)
  else .nothing

/-- The ports of the present tick show the valid word `w` and no reset. -/
def State.offerWord (s : State) (w : CmdWord) : State :=
  { s with env := { s.port with rst := false, cmdValid := true, cmd := w } :: s.env.tail }

/-- A core that waits for a command: idle, not busy, no delay pending (R22). -/
def State.idled (s : State) : State := { s with st := .idle, busy := false, dlyCnt := 0 }

end Sys2Proof.Machine
end

