-- ==== Sys2Proof/Machine/Step.lean ====
section
/-! DEFINITION. One step: one tick of one device. -/

namespace Sys2Proof.Machine

/-- One tick (R9, R155, R187, R200). -/
def step (s : State) : Host.Outcome State Fault Refusal :=
  match s.work with
  | .reset => .next s.resetTick.endTick
  | .command i => onNext State.endTick (exec i s)
  | .badWord e => .next (s.cmdError e).endTick
  | .nothing => .next s.endTick
  | .stray => .fault .strayCommand

/-- The command word `w` stands on the command port of an idle core in the next tick (R155). A core
that is busy is made idle, since a busy core looks at no word (log 4). -/
def State.withFetchWord (s : State) (nbits w : Nat) : State := s.idled.offerWord (portWord nbits w)

end Sys2Proof.Machine
end

