-- ==== Sys2Proof/Machine/ReadPort.lean ====
section
/-! DEFINITION. The output ports: the read port, cmd_ready and the pads (spec/10_state.md R26 to R28). -/

namespace Sys2Proof.Machine

/-- `cmd_ready = not BUSY` (R28, R155). -/
def State.cmdReady (s : State) : Bool := !s.busy

/-- The register behind each read-port entry (R26). -/
def readExact (s : State) (rsel : BitVec 4) : Byte :=
  match rsel.toNat with
  | 0x0 => statusByte s
  | 0x1 => s.len
  | 0x2 => s.ackv
  | 0x3 => s.dout
  | 0x4 => s.sum1
  | 0x5 => s.sum2
  | 0x6 => s.cfg.ownAddr
  | 0x7 => 0#5 ++ s.errCode
  | 0x8 => 0#2 ++ s.st.code
  | 0x9 => s.byteIdx
  | 0xA => 0#5 ++ s.bitIdx
  | 0xB => edgeByte s
  | 0xC => linesByte s.pads (s.levelAs .linesClock .clock) (s.levelAs .linesData .data)
  | 0xD => BitVec.ofNat 8 s.cfg.payloadCap
  | 0xE => (halfPeriodWord s.cfg).extractLsb' 0 8
  | _ => (halfPeriodWord s.cfg).extractLsb' 8 8

/-- The bits of an entry that are exact also while BUSY = 1: BUSY, BOUND and ERR of STATUS, the whole of
ERRCODE, STATE and the constants (R27), and the reserved bits, which always read 0 (R24, R26; log 8). -/
def exactWhileBusy (rsel : BitVec 4) : Byte :=
  match rsel.toNat with
  | 0x0 => 0b11000011
  | 0x6 => 0xFF
  | 0x7 => 0xFF
  | 0x8 => 0xFF
  | 0xA => 0b11111000
  | 0xB => 0b11100000
  | 0xC => 0b11000000
  | 0xD => 0xFF
  | 0xE => 0xFF
  | 0xF => 0xFF
  | _ => 0

/-- `rdata` for a selected entry. While BUSY = 1 the bits that R27 leaves unspecified are free
(log 8). -/
def readPort (s : State) (rsel : BitVec 4) : Byte :=
  if s.busy then
    (readExact s rsel &&& exactWhileBusy rsel)
      ||| (Config.busyRead s.cfg.device rsel s.draws &&& ~~~exactWhileBusy rsel)
  else readExact s rsel

/-- The port `rdata[7:0]`, combinational from `rsel` (R28). -/
def State.rdata (s : State) : Byte := readPort s s.port.rsel

end Sys2Proof.Machine
end

