-- ==== Sys2Proof/Machine/Session.lean ====
section
/-! DEFINITION. The host of a device: the sequences `send` and `receive` in the core's commands
(spec/45_session_host.md R165 to R171) and the start-up before them (spec/70_reset_and_hazards.md R203). The core does not implement them (spec/00_scope.md R3 (c)). -/

namespace Sys2Proof.Machine

/-- `ACK_ACCEPT` (R67). -/
def ackAccept : Byte := 0x6D

/-- `ACK_REJECT` (R67). -/
def ackReject : Byte := 0xAA

/-- What a host is asked to do after its start-up. -/
inductive Job where
  /-- A further call of `bind`, "a no-op if already bound" (R158, R171). -/
  | bind
  | send (dst : Byte) (text : List Byte)
  | receive
deriving DecidableEq, Repr

/-- Where a host stands when it next finds BUSY = 0. -/
inductive Phase where
  /-- The device was reset and the start-up is still to run (R171, R203). -/
  | startUp
  /-- Start-up: BIND has ended (R203 (2)). -/
  | testBound
  /-- Between two jobs. -/
  | between
  /-- `send`: the rest of the text is to be put. -/
  | putText (dst : Byte) (rest : List Byte)
  /-- `send`: the frame is built. -/
  | sendFrame
  /-- `send`: TXF has ended; `n` is the payload length. -/
  | awaitAck (n : Byte)
  /-- `send`: RXA has ended. -/
  | testAck (n : Byte)
  /-- `receive`: CLR has ended. -/
  | runDecoder
  /-- `receive`: RXF has ended. -/
  | testFrame
  /-- `receive`: the address byte is in DOUT. -/
  | testAddress (n : Byte)
  /-- `receive`: VFY has ended. -/
  | testChecksum (n : Byte)
  /-- `receive`: the reject was sent. -/
  | discard
  /-- `receive`: the accept was sent, nothing is extracted yet. -/
  | extract (n : Byte)
  /-- `receive`: a further payload byte is in DOUT. -/
  | collect (n : Byte) (text : List Byte)
deriving DecidableEq, Repr

/-- A host: its place, the job it is at, the jobs still to do, the ticks it will let pass before each
coming command (R165; zero past the end of the list), and what its jobs returned (`send` returns the
empty text). -/
structure Session where
  phase : Phase
  /-- The job begun and not ended. -/
  current : Option Job
  jobs : List Job
  /-- DESIGN CHOICE (log 23): whether a job cut off by a reset is begun afresh after the start-up, or
  dropped. -/
  redo : Bool
  wait : List Nat
  returned : List (List Byte)
deriving DecidableEq, Repr

/-- A host right after the reset of its device, with these jobs before it (R171, R203). -/
def Session.fresh (jobs : List Job) (redo : Bool) (wait : List Nat) : Session :=
  ⟨.startUp, none, jobs, redo, wait, []⟩

/-- The device was reset: the start-up must run again (R202, R203). DESIGN CHOICE (log 23): the spec
does not say what becomes of the job that the reset cut off. It is never continued; `redo` says whether
it is begun afresh or dropped. -/
def Session.cutOff (h : Session) : Session :=
  { h with
    phase := .startUp
    current := none
    jobs := if h.redo then h.current.toList ++ h.jobs else h.jobs }

/-- A host's move: the command it offers, if any, and where it stands then. -/
abbrev Move := Option Instr × Session

/-- Offer a command. -/
def Session.offer (h : Session) (i : Instr) (p : Phase) : Move := (some i, { h with phase := p })

/-- The first command of a job (R166, R167). -/
def Session.begin (h : Session) : Job → Move
  | .bind => h.offer .bind .between
  | .send d t => h.offer .blds (.putText d t)
  | .receive => h.offer .clr .runDecoder

/-- Begin the next job, if there is one (R166, R167). -/
def Session.start (h : Session) : Move :=
  match h.jobs with
  | [] => (none, { h with phase := .between, current := none })
  | j :: js => ({ h with current := some j, jobs := js }).begin j

/-- A job returns a text. -/
def Session.return (h : Session) (text : List Byte) : Move :=
  ({ h with returned := h.returned ++ [text] }).start

/-- The start-up: BIND, then the jobs once STATUS = 0x02 is seen. DESIGN CHOICE (log 23): a host that
sees another STATUS issues BIND again. -/
def Session.bindFirst (h : Session) : Move := h.offer .bind .testBound

/-- `receive` begins again: clear the buffer (R167). -/
def Session.again (h : Session) : Move := h.offer .clr .runDecoder

/-- `receive` reads the payload byte by byte and returns it (R91, R167). -/
def Session.gather (h : Session) (n : Byte) (text : List Byte) : Move :=
  if text.length < n.toNat then h.offer (.getb (BitVec.ofNat 8 text.length)) (.collect n text)
  else h.return text

/-- The move of a host that finds BUSY = 0 and reads the port through `read` (R166, R167, R203). -/
def Session.move (h : Session) (read : BitVec 4 → Byte) : Move :=
  match h.phase with
  | .startUp => h.bindFirst
  | .testBound => if read 0x0 = 0x02 then h.start else h.bindFirst
  | .between => h.start
  | .putText d [] => h.offer (.blde d) .sendFrame
  | .putText d (b :: rest) => h.offer (.putb b) (.putText d rest)
  | .sendFrame => h.offer (.txf (read 0x1 + 3)) (.awaitAck (read 0x1))
  | .awaitAck n => h.offer .rxa (.testAck n)
  | .testAck n => if read 0x2 = ackAccept then h.return [] else h.offer (.txf (n + 3)) (.awaitAck n)
  | .runDecoder => h.offer .rxf .testFrame
  | .testFrame =>
    if (read 0x0).getLsbD 5 then h.again else h.offer (.getb (read 0x1 + 2)) (.testAddress (read 0x1))
  | .testAddress n => if read 0x3 = read 0x6 then h.offer .vfy (.testChecksum n) else h.again
  | .testChecksum n =>
    if (read 0x0).getLsbD 2 then h.offer (.txa ackAccept) (.extract n) else h.offer (.txa ackReject) .discard
  | .discard => h.again
  | .extract n => h.gather n []
  | .collect n text => h.gather n (text ++ [read 0x3])

/-- One tick of a host: it waits while BUSY = 1 and for as many ticks as it lets pass, then moves
(R165). -/
def Session.tick (h : Session) (ready : Bool) (read : BitVec 4 → Byte) : Move :=
  if ready then
    match h.wait with
    | (k + 1) :: w => (none, { h with wait := k :: w })
    | 0 :: w => ({ h with wait := w }).move read
    | [] => h.move read
  else (none, h)

end Sys2Proof.Machine
end

