-- ==== Sys2Proof/Machine/Network.lean ====
section
/-! DEFINITION. Several devices with their hosts on one bus (spec/00_scope.md R4, R8;
spec/20_memory.md R47 to R49; spec/60_exceptions.md R191; spec/70_reset_and_hazards.md R226). -/

namespace Sys2Proof.Machine

/-- One device and its host (R191). -/
structure Node where
  dev : State
  host : Session
deriving DecidableEq, Repr

/-- The answer of a step of several devices. -/
abbrev NetAnswer (α : Type) := Host.Outcome α Fault Refusal

/-- The pads of these devices. -/
def padsOf (ns : List Node) : List Pads := ns.map fun n => n.dev.pads

/-- What a line of the bus shows: every device of the list drives it, and nobody else (R47, R49). -/
def netLevel (l : Line) (ns : List Node) : BusLevel := resolve (drivers l (padsOf ns))

/-- A device that sees the pads of the others in this tick. The bus is one medium (R49), so whatever pads
its own port queue holds are not on it. -/
def State.seeing (s : State) (others : List Pads) : State :=
  { s with env := { s.port with peers := others } :: s.env.tail }

/-- A device with its host's command on the port. The host is the only agent that issues commands
(R165): without one the port shows no valid word, whatever the queue holds. -/
def State.offering (s : State) : Option Instr → State
  | none => { s with env := { s.port with cmdValid := false, cmd := 0 } :: s.env.tail }
  | some i => { s with env := { s.port with cmdValid := true, cmd := encode i } :: s.env.tail }

/-- A device right after construction and reset, with its host (R171). -/
def Node.fresh (c : Config) (env : List PortIn) (h : Session) : Node := ⟨State.resetOf c 0 0 env, h⟩

/-- What the host does in a tick of its device: in a reset tick it makes no move, and its job is cut off
(R200, R203; log 23). -/
def Node.hostMove (n : Node) (d : State) : Move :=
  if d.port.rst then (none, n.host.cutOff) else n.host.tick d.cmdReady (readPort d)

/-- One tick of a device and its host, given the pads of the others before the tick (R48). -/
def Node.tick (n : Node) (others : List Pads) : NetAnswer Node :=
  let d := n.dev.seeing others
  let mv := n.hostMove d
  match step (d.offering mv.1) with
  | .next s => .next ⟨s, mv.2⟩
  | .fault r => .fault r
  | .refused r => .refused r

/-- The nodes after `before`, each of them clocked or not in this instant; every one sees the pads that
all others had before the instant (R48, R49). -/
def tickNodes : List Pads → List Node → List Bool → NetAnswer (List Node)
  | _, [], _ => .next []
  | before, n :: ns, cs =>
    match (if cs.headD false then n.tick (before ++ padsOf ns) else .next n) with
    | .next n' =>
      match tickNodes (before ++ [n.dev.pads]) ns cs.tail with
      | .next ns' => .next (n' :: ns')
      | .fault r => .fault r
      | .refused r => .refused r
    | .fault r => .fault r
    | .refused r => .refused r

/-- One instant of the bus: the devices named in `clocked` take a tick (R8, R226). -/
def netTick (ns : List Node) (clocked : List Bool) : NetAnswer (List Node) := tickNodes [] ns clocked

/-- A schedule of instants, up to the first stop. -/
def netRun : List Node → List (List Bool) → NetAnswer (List Node)
  | ns, [] => .next ns
  | ns, c :: cs =>
    match netTick ns c with
    | .next ns' => netRun ns' cs
    | .fault r => .fault r
    | .refused r => .refused r

end Sys2Proof.Machine
end

