-- ==== Sys2Proof/WellFormed.lean ====
section
/-! DEFINITION. Well-formed configurations and commands: the legal ranges of spec/00_scope.md R5 and
the operand ranges of spec/44_system.md R156 (4). Every operand is 8 bits wide by its type. -/

namespace Sys2Proof

/-- The legal ranges of the parameters (R5). -/
def Config.wf (c : Config) : Bool :=
  decide (c.payloadCap ≤ 252) && decide (1 ≤ c.tUs) && decide (c.tUs ≤ 65535) && decide (1 ≤ c.ticksPerUs)

/-- The operand of a command is in the range that a core of this configuration executes:
`SETL n` with `n ≤ PAYLOAD_CAP`, `GETB i` with `i < BUF_CAP`, `TXF m` with `m ≤ BUF_CAP`, where
`BUF_CAP = PAYLOAD_CAP + 3` (R156 (4)); every other command takes any operand. -/
def Instr.wf (c : Config) : Instr → Bool
  | .nop => true
  | .bind => true
  | .clr => true
  | .blds => true
  | .putb _ => true
  | .blde _ => true
  | .setl n => decide (n.toNat ≤ c.payloadCap)
  | .vfy => true
  | .getb i => decide (i.toNat < c.payloadCap + 3)
  | .txf m => decide (m.toNat ≤ c.payloadCap + 3)
  | .txa _ => true
  | .rxf => true
  | .rxa => true

end Sys2Proof
end

