-- ==== Sys2Proof/Safety.lean ====
section
/-! DEFINITION. What a safe state is: the invariants that the spec states for every state of a device
(spec/10_state.md R12, R13, R16, R22; spec/20_memory.md R42; spec/41_transmitter.md R103, R105), and the
conditions on inputs that statements about runs use. -/

namespace Sys2Proof.Machine

/-- `n` ticks of one device, up to the first stop (`Host.Core.run` of `Sys2Proof.core`:
Laws/Runs.lean). -/
def runs : Nat → State → Answer
  | 0, s => .next s
  | n + 1, s =>
    match step s with
    | .next t => runs n t
    | .fault r => .fault r
    | .refused r => .refused r

/-- The core waits for a command: BUSY = 0, ST = IDLE, no delay runs (R21, R22). -/
def State.waiting (s : State) : Prop := s.busy = false ∧ s.st = .idle ∧ s.dlyCnt = 0

/-- The port of this tick shows a valid word that decodes to `i` (R155). -/
def State.offers (s : State) (i : Instr) : Prop := s.port.cmdValid = true ∧ decode s.port.cmd = .ok i

/-- A command runs and the micro-operation of state `q` is the next (R21, R22). -/
def State.atUop (s : State) (q : Seq) : Prop := s.busy = true ∧ s.st = q ∧ s.dlyCnt = 0

/-- Every register but BUF holds its reset value (R31, R201). -/
structure resetRegisters (s : State) : Prop where
  len : s.len = 0
  sums : s.sum1 = 0 ∧ s.sum2 = 0
  edge : s.sigPrev = false ∧ s.datPrev = false ∧ s.sigCurr = false ∧ s.datCurr = false
  position : s.byteIdx = 0 ∧ s.bitIdx = 0 ∧ s.phase = false
  results : s.ackv = 0 ∧ s.dout = 0
  lines : s.pads = ⟨true, true, false, false⟩
  sequencer : s.dlyCnt = 0 ∧ s.st = .idle ∧ s.cmdr = 0
  flags : s.busy = false ∧ s.bound = false ∧ s.csok = false ∧ s.frameEnd = false ∧ s.ovf = false ∧
    s.short = false ∧ s.err = false
  errCode : s.errCode = 0

/-- Bit `k` of a frame or of one byte, most significant first, byte 0 first (R61, R66). -/
def State.wireBit (s : State) (k : Nat) : Level := bitOf (s.byteAt (k / 8)) (BitVec.ofNat 3 (7 - k % 8))

/-- The other devices put a line at level `v` for certain, without contention (R47). -/
def PortIn.shows (p : PortIn) (l : Line) (v : Level) : Prop :=
  ∀ draw, (resolve (drivers l p.peers)).sampled draw = v

/-- A tick that offers `i`, and then at least `n` ticks without a word and without reset: the host's
latency is free (R165), and the other devices may do what they will on the bus. -/
def offersThenWaits (i : Instr) (n : Nat) : List PortIn → Prop
  | [] => False
  | p :: ps => p.rst = false ∧ p.cmdValid = true ∧ decode p.cmd = .ok i ∧ n ≤ ps.length ∧
      ∀ q ∈ ps, q.rst = false ∧ q.cmdValid = false

/-- The host has the start-up still before it, or its device is bound (R171, R203). -/
def Node.startsUpFirst (n : Node) : Prop :=
  n.host.phase = .startUp ∨ n.host.phase = .testBound ∨ n.dev.bound = true

/-- A host that has nothing to do. -/
def Session.idle (h : Session) : Prop := h.phase = .between ∧ h.jobs = []

/-- No reset in the next `n` ticks. -/
def State.noReset (s : State) (n : Nat) : Prop := ∀ k < n, (s.env.getD k PortIn.quiet).rst = false

/-- The sequencer states of a command (R22). -/
def ownsState : Instr → Seq → Bool
  | .txf _, q => q ∈ [Seq.tfDrive, .tfStartLo, .tfStartHi, .tfBitData, .tfBitClock, .tfForce, .tfStopLo, .tfStopHi]
  | .txa _, q => q ∈ [Seq.taDrive, .taBitData, .taBitClock, .taRestore]
  | .rxf, q => q ∈ [Seq.rfRelease, .rfSeed, .rfAwaitData, .rfAwaitClock, .rfEdgeWait, .rfSettle, .rfSample]
  | .rxa, q => q ∈ [Seq.raRelease, .raSeed, .raAwaitClock]
  | .nop, q => q == .exec
  | .bind, q => q == .exec
  | .clr, q => q == .exec
  | .blds, q => q == .exec
  | .putb _, q => q == .exec
  | .blde _, q => q == .exec
  | .setl _, q => q == .exec
  | .vfy, q => q == .exec
  | .getb _, q => q == .exec

/-- The states in which a delay runs (R21, R22). -/
def delayState (q : Seq) : Bool :=
  q ∈ [Seq.tfDrive, .tfStartLo, .tfStartHi, .tfBitClock, .tfForce, .tfNorm, .tfStopLo, .tfStopHi,
    .taDrive, .taBitClock, .rfSettle]

/-- Both lines are driven. -/
def drivesBoth (s : State) : Prop := s.pads.clkOe = true ∧ s.pads.datOe = true

/-- Both lines are released. -/
def releasedBoth (s : State) : Prop := s.pads.clkOe = false ∧ s.pads.datOe = false

/-- The phase belongs to the bit position: bit `k` of a byte, position `7 - k`, has phase `k mod 2`
(R61, R103, R142). -/
def phaseFits (s : State) : Prop := s.phase = !s.bitIdx.getLsbD 0

/-- TXF stands at the end of its last byte, with CLOCK HIGH (R105, R107). -/
def txfAtEnd (m : Byte) (s : State) : Prop :=
  s.byteIdx = m ∧ s.bitIdx = 7 ∧ s.phase = false ∧ s.pads.clkOut = true ∧ drivesBoth s

/-- What holds in each state of TXF (R101 to R107). -/
def txfInv (m : Byte) (s : State) : Prop :=
  match s.st with
  | .tfDrive => s.dlyCnt ≠ 0 → s.pads.clkOut = true ∧ drivesBoth s
  | .tfStartLo => s.pads.clkOut = true ∧ drivesBoth s
  | .tfStartHi =>
    s.pads.clkOut = true ∧ drivesBoth s ∧ (s.dlyCnt ≠ 0 → s.byteIdx = 0 ∧ s.bitIdx = 7 ∧ s.phase = false)
  | .tfBitData =>
    s.dlyCnt = 0 ∧ s.byteIdx.toNat < m.toNat ∧ phaseFits s ∧ s.pads.clkOut = !s.phase ∧ drivesBoth s
  | .tfBitClock =>
    phaseFits s ∧ s.pads.clkOut = !s.phase ∧ drivesBoth s ∧
      (s.byteIdx.toNat < m.toNat ∨ s.dlyCnt ≠ 0 ∧ s.byteIdx = m ∧ s.bitIdx = 7)
  | .tfForce => txfAtEnd m s
  | .tfStopLo => txfAtEnd m s
  | .tfStopHi => txfAtEnd m s
  | _ => True

/-- What holds in each state of TXA (R141 to R143). -/
def txaInv (s : State) : Prop :=
  match s.st with
  | .taDrive => s.dlyCnt ≠ 0 → s.bitIdx = 7 ∧ s.phase = false ∧ s.pads.clkOut = true ∧ drivesBoth s
  | .taBitData => phaseFits s ∧ s.pads.clkOut = !s.phase ∧ drivesBoth s
  | .taBitClock =>
    s.pads.clkOut = !s.phase ∧ drivesBoth s ∧ (phaseFits s ∨ s.dlyCnt ≠ 0 ∧ s.bitIdx = 0 ∧ s.phase = false)
  | .taRestore => s.bitIdx = 0 ∧ s.phase = false ∧ s.pads.clkOut = true ∧ drivesBoth s
  | _ => True

/-- What holds in each state of RXF (R121, R129). -/
def rxfInv (s : State) : Prop :=
  s.st = .rfRelease ∨
    releasedBoth s ∧ s.frameEnd = false ∧ s.ovf = false ∧ s.short = false ∧ s.byteIdx.toNat < bufCap s.cfg

/-- What holds in each state of RXA (R146). -/
def rxaInv (s : State) : Prop := s.st = .raRelease ∨ releasedBoth s

/-- What holds while a command runs, beyond its being in one of its states. -/
def runInv (s : State) : Instr → Prop
  | .txf m => txfInv m s
  | .txa _ => txaInv s
  | .rxf => rxfInv s
  | .rxa => rxaInv s
  | .clr => s.loopIdx < bufCap s.cfg
  | .blds => s.loopIdx < bufCap s.cfg
  | .vfy => s.loopIdx ≤ s.len.toNat
  | .nop => True
  | .bind => True
  | .putb _ => True
  | .blde _ => True
  | .setl _ => True
  | .getb _ => True

/-- A busy core runs the command in CMDR, which passed every check at its acceptance and stands in one
of its states, TF_NORM not among them (R22, R105, R155, R156). -/
def busyInv (s : State) : Prop :=
  ∃ i, decode s.cmdr = .ok i ∧ ownsState i s.st = true ∧ Instr.wf s.cfg i = true ∧
    (isLineCommand i = true → s.bound = true) ∧ runInv s i

/-- The invariant of a device. -/
structure DeviceInv (s : State) : Prop where
  /-- A legal configuration (R5). -/
  cfg : s.cfg.wf = true
  /-- The buffer list has its canonical form … -/
  buf : Memory.wf s.buf = true
  /-- … and lists only bytes that exist (R42). -/
  inside : ∀ c ∈ s.buf, c.1 < bufCap s.cfg
  /-- `LEN ≤ PAYLOAD_CAP` (R12). -/
  len : s.len.toNat ≤ s.cfg.payloadCap
  /-- The checksum pair and its recomputation are in 0 .. 254 (R13, R82). -/
  sums : s.sum1.toNat ≤ 254 ∧ s.sum2.toNat ≤ 254 ∧ s.acc1.toNat ≤ 254 ∧ s.acc2.toNat ≤ 254
  /-- BYTEIDX ranges over 0 to BUF_CAP (R16). -/
  byteIdx : s.byteIdx.toNat ≤ bufCap s.cfg
  /-- `ST` is IDLE exactly when BUSY = 0 (R22). -/
  idle : s.busy = false ↔ s.st = .idle
  /-- A delay runs only in a state that has one, and never longer than two holds (R21, R189). -/
  delay : s.dlyCnt ≠ 0 → delayState s.st = true ∧ s.dlyCnt ≤ 2 * holdTicks s.cfg
  /-- ERRCODE is 0 exactly when ERR = 0; codes 5 to 7 are never produced (R25, R181). -/
  err : (s.err = false ↔ s.errCode = 0) ∧ s.errCode.toNat ≤ 4
  /-- What holds while a command runs. -/
  run : s.busy = true → busyInv s

end Sys2Proof.Machine
end

