-- ==== Sys2Proof/Certificates/Slice0/Obligations.lean ====
section
/-! DEFINITION. The statements for the provers, in the order of the spec's files. -/

section Statements

open Sys2Proof Sys2Proof.Machine

/-! ## Command words (spec/30_encoding.md) -/

/-- R68, R70, R71: the decoder reads from every command's word that command, and from no other word. -/
def Obligations.DecodeInvertsEncode : Prop :=
  (∀ i : Instr, decode (encode i) = .ok i) ∧ ∀ (w : CmdWord) (i : Instr), decode w = .ok i → encode i = w

/-- R70: a word selects the command whose `match` it equals under its `mask`, and then only. -/
def Obligations.OpcodeMapSelects : Prop :=
  ∀ w : CmdWord,
    (w &&& 0xFFFF#16 = 0x0000#16 ↔ decode w = .ok .nop) ∧
    (w &&& 0xFFFF#16 = 0x1000#16 ↔ decode w = .ok .bind) ∧
    (w &&& 0xFFFF#16 = 0x2000#16 ↔ decode w = .ok .clr) ∧
    (w &&& 0xFFFF#16 = 0x3000#16 ↔ decode w = .ok .blds) ∧
    (w &&& 0xFF00#16 = 0x4000#16 ↔ decode w = .ok (.putb (w.extractLsb' 0 8))) ∧
    (w &&& 0xFF00#16 = 0x5000#16 ↔ decode w = .ok (.blde (w.extractLsb' 0 8))) ∧
    (w &&& 0xFF00#16 = 0x6000#16 ↔ decode w = .ok (.setl (w.extractLsb' 0 8))) ∧
    (w &&& 0xFFFF#16 = 0x7000#16 ↔ decode w = .ok .vfy) ∧
    (w &&& 0xFF00#16 = 0x8000#16 ↔ decode w = .ok (.getb (w.extractLsb' 0 8))) ∧
    (w &&& 0xFF00#16 = 0x9000#16 ↔ decode w = .ok (.txf (w.extractLsb' 0 8))) ∧
    (w &&& 0xFF00#16 = 0xA000#16 ↔ decode w = .ok (.txa (w.extractLsb' 0 8))) ∧
    (w &&& 0xFFFF#16 = 0xB000#16 ↔ decode w = .ok .rxf) ∧
    (w &&& 0xFFFF#16 = 0xC000#16 ↔ decode w = .ok .rxa)

/-- R71: the three kinds of bad word, their codes 1 and 2, that every other word is a command, and that
a bad word changes nothing but ERR and ERRCODE (`env` and `draws` are the model's own: log 3, log 7). -/
def Obligations.BadWordsRaiseCommandError : Prop :=
  ∀ w : CmdWord,
    (0xD ≤ (opField w).toNat → decode w = .error .illegalOpcode) ∧
    ((opField w).toNat ≤ 0xC → rsvField w ≠ 0 → decode w = .error .reservedField) ∧
    (opField w ∈ [0x0#4, 0x1#4, 0x2#4, 0x3#4, 0x7#4, 0xB#4, 0xC#4] → immField w ≠ 0 →
      decode w = .error .reservedField) ∧
    ((opField w).toNat ≤ 0xC → rsvField w = 0 →
      (opField w ∈ [0x0#4, 0x1#4, 0x2#4, 0x3#4, 0x7#4, 0xB#4, 0xC#4] → immField w = 0) →
      ∃ i, decode w = .ok i) ∧
    CmdErr.illegalOpcode.code = 1 ∧ CmdErr.reservedField.code = 2 ∧
    ∀ (e : CmdErr) (s : State), decode w = .error e → s.busy = false → s.port.rst = false →
      s.port.cmdValid = true → s.port.cmd = w →
      step s = .next { s with
        err := true
        errCode := if s.err then s.errCode else e.code
        env := s.env.tail
        draws := s.draws + 1 }

/-- Example words of R73, R83 to R90, R100, R140, R158 and R145, each with its command. -/
def Obligations.ExampleWordsDecode : Prop :=
  decode 0x0000 = .ok .nop ∧ decode 0x1000 = .ok .bind ∧ decode 0x2000 = .ok .clr ∧
    decode 0x4050 = .ok (.putb 0x50) ∧ decode 0x9007 = .ok (.txf 7) ∧ decode 0xA06D = .ok (.txa 0x6D) ∧
    decode 0xB000 = .ok .rxf ∧ decode 0xC000 = .ok .rxa ∧ decode 0xF123 = .error .illegalOpcode ∧
    decode 0x9180 = .error .reservedField ∧ decode 0x2001 = .error .reservedField

/-! ## A tick (spec/44_system.md, spec/60_exceptions.md, spec/70_reset_and_hazards.md) -/

/-- R155, R159: without reset, an idle core runs the command that the offered word decodes to, a busy
core the command in CMDR, and an idle core without a word does nothing. Around it the tick takes the
head off `env` and counts `draws` (log 3, log 7). -/
def Obligations.StepRunsDecodedCommand : Prop :=
  ∀ s : State, s.port.rst = false →
    (∀ i, s.busy = false → s.offers i →
      step s = onNext (fun t => { t with env := t.env.tail, draws := t.draws + 1 }) (exec i s)) ∧
    (∀ i, s.busy = true → decode s.cmdr = .ok i →
      step s = onNext (fun t => { t with env := t.env.tail, draws := t.draws + 1 }) (exec i s)) ∧
    (s.busy = false → s.port.cmdValid = false →
      step s = .next { s with env := s.env.tail, draws := s.draws + 1 })

/-- The model's choice of how a word is presented (log 4): after `withFetchWord` the next step runs the
command that the word decodes to, in a state that differs from `s` in `env`, ST, BUSY and DLYCNT only. -/
def Obligations.FetchedWordRuns : Prop :=
  ∀ (s : State) (nbits w : Nat) (i : Instr), decodeTableWord nbits w = some i →
    step (s.withFetchWord nbits w) = onNext State.endTick (exec i (s.withFetchWord nbits w)) ∧
    { s.withFetchWord nbits w with env := s.env, st := s.st, busy := s.busy, dlyCnt := s.dlyCnt } = s

/-- R200, R201: in every state a tick with `rst = 1` writes the reset values, whatever else the ports
show, and the configuration stays; State.reset holds them too. -/
def Obligations.ResetWritesResetValues : Prop :=
  resetRegisters State.reset ∧
  ∀ s : State, s.port.rst = true →
    ∃ t, step s = .next t ∧ resetRegisters t ∧ t.cfg = s.cfg

/-- The model's reading of "unspecified" in R33 and R201 (log 6): after a reset no byte of BUF is listed
and each reads as the free value of the new reset epoch. -/
def Obligations.ResetForgetsBuffer : Prop :=
  ∀ s : State, s.port.rst = true →
    ∃ t, step s = .next t ∧ t.buf = [] ∧
      ∀ a, t.byteAt a = Config.unwrittenByte s.cfg.device (s.resets + 1) a

/-- R155: a busy core gives the same step for every word and validity on the command port. -/
def Obligations.BusyCoreIgnoresCommandPort : Prop :=
  ∀ (s : State) (v : Bool) (w : CmdWord), s.busy = true →
    step { s with env := { s.port with cmdValid := v, cmd := w } :: s.env.tail } = step s

/-- R26, R27, R46: what the read port selects changes no step. -/
def Obligations.ReadSelectHasNoSideEffect : Prop :=
  ∀ (s : State) (r : BitVec 4), step { s with env := { s.port with rsel := r } :: s.env.tail } = step s

/-- R156, R183: the checks of an accepting tick in their order, and what a failed and a passed check
write. The hidden loop registers (log 9), `env` (log 3) and `draws` (log 7) are the model's own. -/
def Obligations.AcceptanceChecksInOrder : Prop :=
  ∀ s : State, s.busy = false → s.port.rst = false → s.port.cmdValid = true →
    (∀ e, decode s.port.cmd = .error e →
      step s = .next { s with
        err := true
        errCode := if s.err then s.errCode else e.code
        env := s.env.tail
        draws := s.draws + 1 }) ∧
    ∀ i, decode s.port.cmd = .ok i →
      (isLineCommand i = true → s.bound = false →
        step s = .next { s with
          err := true
          errCode := if s.err then s.errCode else 3
          env := s.env.tail
          draws := s.draws + 1 }) ∧
      ((isLineCommand i = true → s.bound = true) → Instr.wf s.cfg i = false →
        step s = .next { s with
          err := true
          errCode := if s.err then s.errCode else 4
          env := s.env.tail
          draws := s.draws + 1 }) ∧
      ((isLineCommand i = true → s.bound = true) → Instr.wf s.cfg i = true →
        ∃ t, step s = .next t ∧ t.cmdr = s.port.cmd ∧ t.busy = true ∧ t.st = firstState i ∧
          { t with
            cmdr := s.cmdr
            busy := s.busy
            st := s.st
            loopIdx := s.loopIdx
            acc1 := s.acc1
            acc2 := s.acc2
            env := s.env
            draws := s.draws } = s)

/-- R184: the first error is kept, only reset clears it, everything else happens as if ERR were 0, and
both are read exactly at all times. -/
def Obligations.ErrorIsStickyAndHarmless : Prop :=
  (∀ s t : State, s.port.rst = false → step s = .next t → s.err = true →
    t.err = true ∧ t.errCode = s.errCode) ∧
  (∀ (s t : State) (e : Bool) (c : BitVec 3), step s = .next t →
    ∃ u, step { s with err := e, errCode := c } = .next u ∧
      { u with err := t.err, errCode := t.errCode } = t) ∧
  ∀ s : State, (readPort s 0x0).getLsbD 6 = s.err ∧ readPort s 0x7 = 0#5 ++ s.errCode

/-- R10, R159: no step changes the configuration, and a running command's word stays until the next
acceptance or reset. -/
def Obligations.ConfigurationAndRunningWordStay : Prop :=
  ∀ s t : State, step s = .next t →
    t.cfg = s.cfg ∧ (s.port.rst = false → s.busy = true → t.cmdr = s.cmdr)

/-- R21: a pending delay lets no micro-operation happen: DLYCNT counts down and nothing else changes,
but ST and BUSY when it reaches 0. -/
def Obligations.DelayStallsSequencer : Prop :=
  ∀ (i : Instr) (s : State), s.busy = true →
    (2 ≤ s.dlyCnt → exec i s = .next { s with dlyCnt := s.dlyCnt - 1 }) ∧
    (s.dlyCnt = 1 → ∃ t, exec i s = .next t ∧ t.dlyCnt = 0 ∧
      { t with st := s.st, busy := s.busy, dlyCnt := s.dlyCnt } = s)

/-- R155, R224: a command with one tick is accepted, busy in the next tick and done at its end. -/
def Obligations.OneTickCommandsTakeOneTick : Prop :=
  ∀ (s : State) (i : Instr), s.waiting → s.cfg.wf = true → s.len.toNat ≤ s.cfg.payloadCap →
    s.noReset 2 → s.offers i → Instr.wf s.cfg i = true →
    (∃ b, i = .nop ∨ i = .bind ∨ i = .putb b ∨ i = .blde b ∨ i = .setl b ∨ i = .getb b) →
    ∃ t u, runs 1 s = .next t ∧ t.busy = true ∧ t.st = .exec ∧ t.cmdr = encode i ∧
      runs 2 s = .next u ∧ u.waiting

/-! ## System commands (spec/44_system.md) -/

/-- R157: NOP changes nothing but CMDR, ST and BUSY (and, at acceptance, the model's hidden loop
registers, log 9). -/
def Obligations.NopChangesNothing : Prop :=
  ∀ s : State,
    (s.atUop .exec → exec .nop s = .next { s with st := .idle, busy := false }) ∧
    (s.busy = false → ∃ t, exec .nop s = .next t ∧ t.cmdr = 0x0000 ∧ t.busy = true ∧ t.st = .exec ∧
      { t with
        cmdr := s.cmdr
        busy := s.busy
        st := s.st
        loopIdx := s.loopIdx
        acc1 := s.acc1
        acc2 := s.acc2 } = s)

/-- R158: BIND sets BOUND and touches no line; a second one changes nothing; only reset clears BOUND;
until then the four line commands are refused with code 3. -/
def Obligations.BindSetsBoundForGood : Prop :=
  (∀ s : State, s.atUop .exec → exec .bind s = .next { s with bound := true, st := .idle, busy := false }) ∧
  (∀ s : State, s.atUop .exec → s.bound = true → exec .bind s = .next { s with st := .idle, busy := false }) ∧
  (∀ s t : State, s.port.rst = false → s.bound = true → step s = .next t → t.bound = true) ∧
  ∀ (s : State) (i : Instr), s.busy = false → s.bound = false →
    (∃ b, i = .txf b ∨ i = .txa b ∨ i = .rxf ∨ i = .rxa) →
    exec i s = .next { s with err := true, errCode := if s.err then s.errCode else 3 }

/-! ## Frame codec (spec/40_frame_codec.md) -/

/-- R83, R84, R224: one tick of CLR or BLDS clears the byte of its loop index, BLDS also LEN, SUM1 and
SUM2 in the first tick, and the command is done with the last byte (loop index: log 9). -/
def Obligations.ClearingTickClearsOneByte : Prop :=
  ∀ s : State, s.atUop .exec → s.loopIdx < bufCap s.cfg →
    (∃ t, exec .clr s = .next t ∧ t.byteAt s.loopIdx = 0 ∧
      (∀ a, a ≠ s.loopIdx → t.byteAt a = s.byteAt a) ∧
      (s.loopIdx + 1 < bufCap s.cfg → t.loopIdx = s.loopIdx + 1 ∧ t.busy = true ∧ t.st = .exec) ∧
      (s.loopIdx + 1 = bufCap s.cfg → t.busy = false ∧ t.st = .idle) ∧
      { t with buf := s.buf, loopIdx := s.loopIdx, busy := s.busy, st := s.st } = s) ∧
    (∃ t, exec .blds s = .next t ∧ t.byteAt s.loopIdx = 0 ∧
      (∀ a, a ≠ s.loopIdx → t.byteAt a = s.byteAt a) ∧
      (s.loopIdx = 0 → t.len = 0 ∧ t.sum1 = 0 ∧ t.sum2 = 0) ∧
      (s.loopIdx ≠ 0 → t.len = s.len ∧ t.sum1 = s.sum1 ∧ t.sum2 = s.sum2) ∧
      (s.loopIdx + 1 < bufCap s.cfg → t.loopIdx = s.loopIdx + 1 ∧ t.busy = true ∧ t.st = .exec) ∧
      (s.loopIdx + 1 = bufCap s.cfg → t.busy = false ∧ t.st = .idle) ∧
      { t with
        buf := s.buf
        len := s.len
        sum1 := s.sum1
        sum2 := s.sum2
        loopIdx := s.loopIdx
        busy := s.busy
        st := s.st } = s)

/-- R83, R224: from acceptance, `BUF_CAP` ticks of CLR leave every byte zero and every other register
of the spec but CMDR as it was; the core is busy until then. -/
def Obligations.ClrClearsWholeBuffer : Prop :=
  ∀ s : State, s.waiting → s.noReset (1 + bufCap s.cfg) → s.offers .clr →
    (∀ k, 1 ≤ k → k < 1 + bufCap s.cfg → ∃ u, runs k s = .next u ∧ u.busy = true) ∧
    ∃ t, runs (1 + bufCap s.cfg) s = .next t ∧ t.waiting ∧ (∀ a < bufCap s.cfg, t.byteAt a = 0) ∧
      { t with
        buf := s.buf
        cmdr := s.cmdr
        loopIdx := s.loopIdx
        acc1 := s.acc1
        acc2 := s.acc2
        draws := s.draws
        env := s.env } = s

/-- R84, R224: the same for BLDS, which also clears LEN, SUM1 and SUM2. -/
def Obligations.BldsStartsEmptyFrame : Prop :=
  ∀ s : State, s.waiting → s.noReset (1 + bufCap s.cfg) → s.offers .blds →
    ∃ t, runs (1 + bufCap s.cfg) s = .next t ∧ t.waiting ∧ (∀ a < bufCap s.cfg, t.byteAt a = 0) ∧
      t.len = 0 ∧ t.sum1 = 0 ∧ t.sum2 = 0 ∧
      { t with
        buf := s.buf
        len := s.len
        sum1 := s.sum1
        sum2 := s.sum2
        cmdr := s.cmdr
        loopIdx := s.loopIdx
        acc1 := s.acc1
        acc2 := s.acc2
        draws := s.draws
        env := s.env } = s

/-- R80, R85: PUTB with room stores at LEN, takes one checksum step and increments LEN; without room it
changes nothing. No other byte and no other register changes. -/
def Obligations.PutbAppendsByte : Prop :=
  ∀ (b : Byte) (s : State), s.cfg.wf = true → s.atUop .exec →
    (s.len.toNat < s.cfg.payloadCap →
      ∃ t, exec (.putb b) s = .next t ∧ t.byteAt s.len.toNat = b ∧
        (∀ a, a ≠ s.len.toNat → t.byteAt a = s.byteAt a) ∧
        t.sum1.toNat = (s.sum1.toNat + b.toNat) % 255 ∧
        t.sum2.toNat = (t.sum1.toNat + s.sum2.toNat) % 255 ∧
        t.len.toNat = s.len.toNat + 1 ∧ t.st = .idle ∧ t.busy = false ∧
        { t with
          buf := s.buf
          sum1 := s.sum1
          sum2 := s.sum2
          len := s.len
          st := s.st
          busy := s.busy } = s) ∧
    (s.cfg.payloadCap ≤ s.len.toNat →
      exec (.putb b) s = .next { s with st := .idle, busy := false })

/-- R86, R41: BLDE writes SUM1, SUM2 and the destination at LEN, LEN + 1, LEN + 2 and nothing else. -/
def Obligations.BldeWritesTrailer : Prop :=
  ∀ (d : Byte) (s : State), s.len.toNat ≤ s.cfg.payloadCap → s.atUop .exec →
    ∃ t, exec (.blde d) s = .next t ∧ t.byteAt s.len.toNat = s.sum1 ∧
      t.byteAt (s.len.toNat + 1) = s.sum2 ∧ t.byteAt (s.len.toNat + 2) = d ∧
      (∀ a, a ≠ s.len.toNat → a ≠ s.len.toNat + 1 → a ≠ s.len.toNat + 2 → t.byteAt a = s.byteAt a) ∧
      t.st = .idle ∧ t.busy = false ∧ { t with buf := s.buf, st := s.st, busy := s.busy } = s

/-- R87: BLDS, a PUTB per byte and BLDE, offered by a host of any latency on a bus of any behaviour,
build the frame of the text cut to the capacity. That the ports' inputs stand in the queue `env` is the
model's (log 3). -/
def Obligations.BuildFrameBuildsFrame : Prop :=
  ∀ (s : State) (text : List Byte) (d : Byte) (first : List PortIn) (puts : List (List PortIn))
    (last rest : List PortIn), s.cfg.wf = true → s.waiting →
    offersThenWaits .blds (bufCap s.cfg) first →
    List.Forall₂ (fun b ps => offersThenWaits (.putb b) 1 ps) text puts →
    offersThenWaits (.blde d) 1 last →
    s.env = first ++ (puts.flatten ++ (last ++ rest)) →
    ∃ t, runs (first.length + puts.flatten.length + last.length) s = .next t ∧ t.waiting ∧
      t.len.toNat = min text.length s.cfg.payloadCap ∧
      (∀ k (h : k < text.length), k < t.len.toNat → t.byteAt k = text[k]) ∧
      (t.sum1, t.sum2) = csum (text.take t.len.toNat) ∧
      t.byteAt t.len.toNat = t.sum1 ∧ t.byteAt (t.len.toNat + 1) = t.sum2 ∧
      t.byteAt (t.len.toNat + 2) = d ∧
      ∀ k, t.len.toNat + 3 ≤ k → k < bufCap s.cfg → t.byteAt k = 0

/-- R88: SETL writes LEN and nothing else; above PAYLOAD_CAP it is refused with code 4. -/
def Obligations.SetlWritesLength : Prop :=
  ∀ (n : Byte) (s : State),
    (s.atUop .exec → exec (.setl n) s = .next { s with len := n, st := .idle, busy := false }) ∧
    (s.busy = false → s.cfg.payloadCap < n.toNat →
      exec (.setl n) s = .next { s with err := true, errCode := if s.err then s.errCode else 4 })

/-- R89, R224: one tick of VFY is one checksum step or, after the last byte, the writes of SUM1, SUM2
and CSOK (loop index and running pair: log 9). -/
def Obligations.VfyTickStepsOrCompares : Prop :=
  ∀ s : State, s.len.toNat ≤ s.cfg.payloadCap → s.atUop .exec →
    (s.loopIdx < s.len.toNat → ∃ t, exec .vfy s = .next t ∧
      t.acc1.toNat = (s.acc1.toNat + (s.byteAt s.loopIdx).toNat) % 255 ∧
      t.acc2.toNat = (t.acc1.toNat + s.acc2.toNat) % 255 ∧
      t.loopIdx = s.loopIdx + 1 ∧
      { t with acc1 := s.acc1, acc2 := s.acc2, loopIdx := s.loopIdx } = s) ∧
    (s.loopIdx = s.len.toNat → exec .vfy s = .next { s with
      sum1 := s.acc1
      sum2 := s.acc2
      csok := decide (s.acc1 = s.byteAt s.len.toNat ∧ s.acc2 = s.byteAt (s.len.toNat + 1))
      st := .idle
      busy := false })

/-- R81, R89, R224: VFY takes `LEN + 1` ticks, leaves the checksum of the payload in SUM1 and SUM2, and
CSOK says whether both trailing bytes equal it; no byte and no other register of the spec changes. -/
def Obligations.VfyRecomputesChecksum : Prop :=
  ∀ s : State, s.waiting → s.len.toNat ≤ s.cfg.payloadCap → s.noReset (s.len.toNat + 2) → s.offers .vfy →
    ∃ t, runs (s.len.toNat + 2) s = .next t ∧ t.waiting ∧
      (t.sum1, t.sum2) = csum (s.bytes s.len.toNat) ∧
      (t.csok = true ↔ t.sum1 = s.byteAt s.len.toNat ∧ t.sum2 = s.byteAt (s.len.toNat + 1)) ∧
      (∀ a, t.byteAt a = s.byteAt a) ∧
      { t with
        sum1 := s.sum1
        sum2 := s.sum2
        csok := s.csok
        cmdr := s.cmdr
        loopIdx := s.loopIdx
        acc1 := s.acc1
        acc2 := s.acc2
        draws := s.draws
        env := s.env } = s

/-- R90: GETB copies one byte of the buffer to DOUT and changes nothing else; at or above BUF_CAP it is
refused with code 4. -/
def Obligations.GetbReadsByte : Prop :=
  ∀ (i : Byte) (s : State),
    (s.atUop .exec → i.toNat < bufCap s.cfg →
      exec (.getb i) s = .next { s with dout := s.byteAt i.toNat, st := .idle, busy := false }) ∧
    (s.busy = false → bufCap s.cfg ≤ i.toNat →
      exec (.getb i) s = .next { s with err := true, errCode := if s.err then s.errCode else 4 })

/-- R92: a codec command gives the same result whatever the line registers, the edge-sample state, PHASE,
ACKV, the positions, FRAMEEND, OVF, SHORT, BOUND and the bus (`env`) hold, and leaves them as they are. -/
def Obligations.CodecTouchesNoLine : Prop :=
  ∀ (i : Instr) (s : State) (p : Pads) (e1 e2 e3 e4 ph fe ov sh bo : Bool) (a y : Byte) (x : BitVec 3)
    (v : List PortIn),
    (∃ b, i = .clr ∨ i = .blds ∨ i = .putb b ∨ i = .blde b ∨ i = .setl b ∨ i = .vfy ∨ i = .getb b) →
    let put := fun u : State => { u with
      pads := p
      sigPrev := e1
      datPrev := e2
      sigCurr := e3
      datCurr := e4
      phase := ph
      ackv := a
      byteIdx := y
      bitIdx := x
      frameEnd := fe
      ovf := ov
      short := sh
      bound := bo
      env := v }
    exec i (put s) = onNext put (exec i s)

/-- R80, R82: one checksum step folds the new first sum into the second, with results in 0 .. 254. -/
def Obligations.ChecksumStepArithmetic : Prop :=
  ∀ (p : Byte × Byte) (b : Byte),
    (csumStep p b).1.toNat = (p.1.toNat + b.toNat) % 255 ∧
    (csumStep p b).2.toNat = ((csumStep p b).1.toNat + p.2.toNat) % 255 ∧
    (csumStep p b).1.toNat ≤ 254 ∧ (csumStep p b).2.toNat ≤ 254

/-- R93: exchanging 0x00 and 0xFF anywhere leaves the checksum unchanged, every other single-byte change
alters its first component, the order of the bytes does not matter to the first component, and bytes
0x00 and 0xFF alone give (0, 0). -/
def Obligations.ChecksumDetectsAllButZeroFf : Prop :=
  (∀ (xs ys : List Byte), csum (xs ++ 0x00 :: ys) = csum (xs ++ 0xFF :: ys)) ∧
  (∀ (xs ys : List Byte) (b c : Byte), b ≠ c → ¬ (b = 0x00 ∧ c = 0xFF) → ¬ (b = 0xFF ∧ c = 0x00) →
    (csum (xs ++ b :: ys)).1 ≠ (csum (xs ++ c :: ys)).1) ∧
  (∀ xs ys : List Byte, xs.Perm ys → (csum xs).1 = (csum ys).1) ∧
  csum [1, 2] = (3, 4) ∧ csum [2, 1] = (3, 5) ∧
  ∀ xs : List Byte, (∀ b ∈ xs, b = 0x00 ∨ b = 0xFF) → csum xs = (0, 0)

/-- R32, R83 to R90, R109, R140, R145: the commands that store nothing leave every byte of BUF as it
reads, in every tick. -/
def Obligations.NonStoringCommandsKeepBuffer : Prop :=
  ∀ (i : Instr) (s t : State),
    (∃ b, i = .nop ∨ i = .bind ∨ i = .setl b ∨ i = .vfy ∨ i = .getb b ∨ i = .txf b ∨ i = .txa b ∨ i = .rxa) →
    exec i s = .next t → ∀ a, t.byteAt a = s.byteAt a

/-! ## Transmitter (spec/41_transmitter.md) -/

/-- R101 to R108: the micro-operation of each state of TXF: the lines written, the position and phase,
the hold loaded into DLYCNT; nothing else changes. -/
def Obligations.TxfMicroOperations : Prop :=
  ∀ (m : Byte) (s : State), s.cfg.wf = true →
    (s.atUop .tfDrive → exec (.txf m) s = .next { s with
      pads := ⟨true, true, true, true⟩
      dlyCnt := s.cfg.tUs * s.cfg.ticksPerUs }) ∧
    (s.atUop .tfStartLo → exec (.txf m) s = .next { s with
      pads := { s.pads with datOut := false }
      dlyCnt := s.cfg.tUs * s.cfg.ticksPerUs }) ∧
    (s.atUop .tfStartHi → exec (.txf m) s = .next { s with
      pads := { s.pads with datOut := true }
      phase := false
      byteIdx := 0
      bitIdx := 7
      dlyCnt := s.cfg.tUs * s.cfg.ticksPerUs }) ∧
    (s.atUop .tfBitData → s.byteIdx.toNat < bufCap s.cfg → exec (.txf m) s = .next { s with
      pads := { s.pads with datOut := (s.byteAt s.byteIdx.toNat).getLsbD s.bitIdx.toNat }
      st := .tfBitClock }) ∧
    (s.atUop .tfBitClock → exec (.txf m) s = .next { s with
      pads := { s.pads with clkOut := s.phase }
      phase := !s.phase
      bitIdx := if s.bitIdx = 0 then 7 else s.bitIdx - 1
      byteIdx := if s.bitIdx = 0 then s.byteIdx + 1 else s.byteIdx
      dlyCnt := s.cfg.tUs * s.cfg.ticksPerUs }) ∧
    (s.atUop .tfForce → exec (.txf m) s = .next { s with
      pads := { s.pads with datOut := true }
      dlyCnt := s.cfg.tUs * s.cfg.ticksPerUs }) ∧
    (s.atUop .tfNorm → exec (.txf m) s = .next { s with
      pads := { s.pads with clkOut := true }
      dlyCnt := s.cfg.tUs * s.cfg.ticksPerUs }) ∧
    (s.atUop .tfStopLo → exec (.txf m) s = .next { s with
      pads := { s.pads with datOut := false }
      dlyCnt := s.cfg.tUs * s.cfg.ticksPerUs }) ∧
    (s.atUop .tfStopHi → exec (.txf m) s = .next { s with
      pads := { s.pads with datOut := true }
      dlyCnt := s.cfg.tUs * s.cfg.ticksPerUs })

/-- R103, R105, R107, R108: where TXF goes when the hold of each state ends. -/
def Obligations.TxfMovesOnAfterHold : Prop :=
  ∀ (m : Byte) (s : State), s.busy = true → s.dlyCnt = 1 →
    (s.st = .tfDrive → exec (.txf m) s = .next { s with dlyCnt := 0, st := .tfStartLo }) ∧
    (s.st = .tfStartLo → exec (.txf m) s = .next { s with dlyCnt := 0, st := .tfStartHi }) ∧
    (s.st = .tfStartHi ∨ s.st = .tfBitClock → exec (.txf m) s = .next { s with
      dlyCnt := 0
      st := if s.byteIdx.toNat < m.toNat then .tfBitData else .tfForce }) ∧
    (s.st = .tfForce → exec (.txf m) s = .next { s with
      dlyCnt := 0
      st := if s.phase then .tfNorm else .tfStopLo }) ∧
    (s.st = .tfNorm → exec (.txf m) s = .next { s with dlyCnt := 0, st := .tfStopLo }) ∧
    (s.st = .tfStopLo → exec (.txf m) s = .next { s with dlyCnt := 0, st := .tfStopHi }) ∧
    (s.st = .tfStopHi → exec (.txf m) s = .next { s with dlyCnt := 0, st := .idle, busy := false })

/-- R107, R109, R111: TXF ends after exactly `6 + 6*TF + 8m*(2 + TF)` ticks, whatever the bus does, with
both lines driven HIGH, BYTEIDX = m, BITIDX = 7, PHASE = 0, and no data changed. -/
def Obligations.TxfCompletesOnTime : Prop :=
  ∀ (s : State) (m : Byte), s.cfg.wf = true → s.waiting → s.bound = true → m.toNat ≤ bufCap s.cfg →
    s.offers (.txf m) →
    let d := 6 + 6 * holdTicks s.cfg + 8 * m.toNat * (2 + holdTicks s.cfg)
    s.noReset (1 + d) →
    (∀ k, 1 ≤ k → k < 1 + d → ∃ u, runs k s = .next u ∧ u.busy = true) ∧
    ∃ t, runs (1 + d) s = .next t ∧ t.waiting ∧ t.pads = ⟨true, true, true, true⟩ ∧ t.byteIdx = m ∧
      t.bitIdx = 7 ∧ t.phase = false ∧ (∀ a, t.byteAt a = s.byteAt a) ∧
      { t with
        pads := s.pads
        byteIdx := s.byteIdx
        bitIdx := s.bitIdx
        phase := s.phase
        cmdr := s.cmdr
        loopIdx := s.loopIdx
        acc1 := s.acc1
        acc2 := s.acc2
        draws := s.draws
        env := s.env } = s

/-- R50, R61, R63, R108: bit `k` is `f[k div 8][7 - (k mod 8)]`; its DATA write shows one tick before its
CLOCK write, CLOCK then is `k mod 2`, and the cell's levels stay for the `TF` ticks of the hold and the
tick of the next write. -/
def Obligations.TxfBitCellsOnTheWire : Prop :=
  ∀ (s : State) (m : Byte) (k : Nat), s.cfg.wf = true → s.waiting → s.bound = true →
    m.toNat ≤ bufCap s.cfg → s.offers (.txf m) → k < 8 * m.toNat →
    s.noReset (1 + (6 + 6 * holdTicks s.cfg + 8 * m.toNat * (2 + holdTicks s.cfg))) →
    (∃ t, runs (1 + (4 + 3 * holdTicks s.cfg + k * (2 + holdTicks s.cfg))) s = .next t ∧
      t.pads = ⟨decide (k % 2 = 0), s.wireBit k, true, true⟩) ∧
    ∀ j ≤ holdTicks s.cfg,
      ∃ t, runs (1 + (5 + 3 * holdTicks s.cfg + k * (2 + holdTicks s.cfg) + j)) s = .next t ∧
        t.pads = ⟨decide (k % 2 = 1), s.wireBit k, true, true⟩

/-- R62, R64, R104, R108: preamble (1,1), start (1,0) then (1,1), and after the bits force (1,1), stop
(1,0) then (1,1), each for the `TF` ticks of its hold and the tick of the next write. -/
def Obligations.TxfStartAndStopOnTheWire : Prop :=
  ∀ (s : State) (m : Byte) (j : Nat), s.cfg.wf = true → s.waiting → s.bound = true →
    m.toNat ≤ bufCap s.cfg → s.offers (.txf m) → j ≤ holdTicks s.cfg →
    let b := 8 * m.toNat * (2 + holdTicks s.cfg)
    s.noReset (1 + (6 + 6 * holdTicks s.cfg + b)) →
    (∃ t, runs (1 + (1 + j)) s = .next t ∧ t.pads = ⟨true, true, true, true⟩) ∧
    (∃ t, runs (1 + (2 + holdTicks s.cfg + j)) s = .next t ∧ t.pads = ⟨true, false, true, true⟩) ∧
    (∃ t, runs (1 + (3 + 2 * holdTicks s.cfg + j)) s = .next t ∧ t.pads = ⟨true, true, true, true⟩) ∧
    (∃ t, runs (1 + (4 + 3 * holdTicks s.cfg + b + j)) s = .next t ∧ t.pads = ⟨true, true, true, true⟩) ∧
    (∃ t, runs (1 + (5 + 4 * holdTicks s.cfg + b + j)) s = .next t ∧ t.pads = ⟨true, false, true, true⟩) ∧
    ∃ t, runs (1 + (6 + 5 * holdTicks s.cfg + b + j)) s = .next t ∧ t.pads = ⟨true, true, true, true⟩

/-! ## Receiver (spec/42_receiver.md) -/

/-- R121, R122: the entry releases both lines and clears position and result flags; the seed samples
both lines into both pairs of the edge-sample state. -/
def Obligations.RxfReleasesAndSeeds : Prop :=
  ∀ s : State,
    (s.atUop .rfRelease → exec .rxf s = .next { s with
      pads := { s.pads with clkOe := false, datOe := false }
      byteIdx := 0
      bitIdx := 7
      frameEnd := false
      ovf := false
      short := false
      st := .rfSeed }) ∧
    (s.atUop .rfSeed → exec .rxf s = .next { s with
      sigCurr := s.levelAs .sigCurr .clock
      datCurr := s.levelAs .datCurr .data
      sigPrev := s.levelAs .sigCurr .clock
      datPrev := s.levelAs .datCurr .data
      st := .rfAwaitData })

/-- R123 to R126: each wait samples every tick and ends when the sample differs from the saved levels it
compares; an edge event starts the settle delay of `floor(T_US / 3)` microseconds, which takes no tick
when it is 0, and the sample follows it. -/
def Obligations.RxfWaitsForLevelDifference : Prop :=
  ∀ s : State,
    let c := s.levelAs .sigCurr .clock
    let d := s.levelAs .datCurr .data
    let settle := s.cfg.tUs / 3 * s.cfg.ticksPerUs
    (s.atUop .rfAwaitData → exec .rxf s = .next { s with
      sigCurr := c
      datCurr := d
      st := if d = s.datPrev then .rfAwaitData else .rfAwaitClock }) ∧
    (s.atUop .rfAwaitClock → exec .rxf s = .next { s with
      sigCurr := c
      datCurr := d
      st := if c = s.sigPrev then .rfAwaitClock else .rfEdgeWait }) ∧
    (s.atUop .rfEdgeWait → c = s.sigPrev → d = s.datPrev →
      exec .rxf s = .next { s with sigCurr := c, datCurr := d }) ∧
    (s.atUop .rfEdgeWait → c ≠ s.sigPrev ∨ d ≠ s.datPrev → exec .rxf s = .next { s with
      sigCurr := c
      datCurr := d
      dlyCnt := settle
      st := if settle = 0 then .rfSample else .rfSettle }) ∧
    (s.busy = true → s.st = .rfSettle → s.dlyCnt = 1 →
      exec .rxf s = .next { s with dlyCnt := 0, st := .rfSample })

/-- R127, R128, R130: the stop condition ends the frame without a save or a store; LEN is BYTEIDX less
three, or 0 with SHORT for a runt. -/
def Obligations.RxfStopConditionEndsFrame : Prop :=
  ∀ s : State, s.atUop .rfSample →
    s.levelAs .datCurr .data = false → s.datPrev = true → s.sigPrev = true →
    s.levelAs .sigCurr .clock = true →
    ∃ t, exec .rxf s = .next t ∧ t.frameEnd = true ∧ t.sigCurr = true ∧ t.datCurr = false ∧
      (3 ≤ s.byteIdx.toNat → t.len.toNat = s.byteIdx.toNat - 3 ∧ t.short = s.short) ∧
      (s.byteIdx.toNat < 3 → t.len = 0 ∧ t.short = true) ∧ t.st = .idle ∧ t.busy = false ∧
      (∀ a, t.byteAt a = s.byteAt a) ∧
      { t with
        frameEnd := s.frameEnd
        sigCurr := s.sigCurr
        datCurr := s.datCurr
        len := s.len
        short := s.short
        st := s.st
        busy := s.busy } = s

/-- R43, R127, R129, R130: every other sample saves the levels, stores DATA as one bit of one byte,
advances the position, and ends the frame with OVF when the buffer is full. -/
def Obligations.RxfStoresOneBit : Prop :=
  ∀ s : State, s.cfg.wf = true → s.atUop .rfSample → s.byteIdx.toNat < bufCap s.cfg →
    let c := s.levelAs .sigCurr .clock
    let d := s.levelAs .datCurr .data
    ¬ (d = false ∧ s.datPrev = true ∧ s.sigPrev = true ∧ c = true) →
    ∃ t, exec .rxf s = .next t ∧ t.sigCurr = c ∧ t.datCurr = d ∧ t.sigPrev = c ∧ t.datPrev = d ∧
      (∀ j : BitVec 3, bitOf (t.byteAt s.byteIdx.toNat) j =
        if j = s.bitIdx then d else bitOf (s.byteAt s.byteIdx.toNat) j) ∧
      (∀ a, a ≠ s.byteIdx.toNat → t.byteAt a = s.byteAt a) ∧
      (s.bitIdx ≠ 0 → t.bitIdx = s.bitIdx - 1 ∧ t.byteIdx = s.byteIdx) ∧
      (s.bitIdx = 0 → t.bitIdx = 7 ∧ t.byteIdx.toNat = s.byteIdx.toNat + 1) ∧
      (t.byteIdx.toNat < bufCap s.cfg →
        t.st = .rfEdgeWait ∧ t.busy = true ∧ t.frameEnd = s.frameEnd ∧ t.ovf = s.ovf ∧ t.len = s.len) ∧
      (t.byteIdx.toNat = bufCap s.cfg →
        t.st = .idle ∧ t.busy = false ∧ t.frameEnd = true ∧ t.ovf = true ∧
        t.len.toNat = s.cfg.payloadCap) ∧
      { t with
        sigCurr := s.sigCurr
        datCurr := s.datCurr
        sigPrev := s.sigPrev
        datPrev := s.datPrev
        buf := s.buf
        bitIdx := s.bitIdx
        byteIdx := s.byteIdx
        frameEnd := s.frameEnd
        ovf := s.ovf
        len := s.len
        st := s.st
        busy := s.busy } = s

/-- R132, R150 (a): while the other devices keep the awaited line at the saved level, for however many
ticks, RXF and RXA stay in their wait with BUSY = 1. -/
def Obligations.ReceiversWaitWithoutBound : Prop :=
  ∀ (n : Nat) (s : State), s.busy = true → s.dlyCnt = 0 → releasedBoth s → s.noReset n →
    (decode s.cmdr = .ok .rxf ∧ s.st = .rfAwaitData ∧
        (∀ k < n, (s.env.getD k PortIn.quiet).shows .data s.datPrev) ∨
      decode s.cmdr = .ok .rxf ∧ s.st = .rfAwaitClock ∧
        (∀ k < n, (s.env.getD k PortIn.quiet).shows .clock s.sigPrev) ∨
      decode s.cmdr = .ok .rxf ∧ s.st = .rfEdgeWait ∧
        (∀ k < n, (s.env.getD k PortIn.quiet).shows .clock s.sigPrev ∧
          (s.env.getD k PortIn.quiet).shows .data s.datPrev) ∨
      decode s.cmdr = .ok .rxa ∧ s.st = .raAwaitClock ∧
        (∀ k < n, (s.env.getD k PortIn.quiet).shows .clock s.sigPrev)) →
    ∃ t, runs n s = .next t ∧ t.st = s.st ∧ t.busy = true ∧ (∀ a, t.byteAt a = s.byteAt a) ∧
      { t with sigCurr := s.sigCurr, datCurr := s.datCurr, draws := s.draws, env := s.env } = s

/-! ## Acknowledgment sub-codec (spec/43_acknowledgment.md) -/

/-- R141 to R144: the micro-operation of each state of TXA, and where it goes after a hold; nothing else
changes. The last bit is the one after which BITIDX is 0 and PHASE is 0 (log 12). -/
def Obligations.TxaMicroOperations : Prop :=
  ∀ (a : Byte) (s : State), s.cfg.wf = true →
    (s.atUop .taDrive → exec (.txa a) s = .next { s with
      pads := ⟨true, true, true, true⟩
      phase := false
      bitIdx := 7
      dlyCnt := 2 * (s.cfg.tUs * s.cfg.ticksPerUs) }) ∧
    (s.atUop .taBitData → exec (.txa a) s = .next { s with
      pads := { s.pads with datOut := a.getLsbD s.bitIdx.toNat }
      st := .taBitClock }) ∧
    (s.atUop .taBitClock → exec (.txa a) s = .next { s with
      pads := { s.pads with clkOut := s.phase }
      phase := !s.phase
      bitIdx := if s.bitIdx = 0 then 0 else s.bitIdx - 1
      dlyCnt := s.cfg.tUs * s.cfg.ticksPerUs }) ∧
    (s.atUop .taRestore → exec (.txa a) s = .next { s with
      pads := { s.pads with clkOut := true, datOut := true }
      st := .idle
      busy := false }) ∧
    (s.busy = true → s.dlyCnt = 1 → s.st = .taDrive →
      exec (.txa a) s = .next { s with dlyCnt := 0, st := .taBitData }) ∧
    (s.busy = true → s.dlyCnt = 1 → s.st = .taBitClock → exec (.txa a) s = .next { s with
      dlyCnt := 0
      st := if s.bitIdx = 0 ∧ s.phase = false then .taRestore else .taBitData })

/-- R66, R142, R143, R144: TXA takes exactly `18 + 10*TF` ticks; it drives (1,1) for the `2*TF` ticks
of its first hold and the tick of the next write; bit `j` is `a[7 - j]`, its DATA write
shows one tick before its CLOCK write, CLOCK then is `j mod 2` for the hold and the tick of the next
write; at the end both lines are driven HIGH and no data has changed. -/
def Obligations.TxaSendsEightBitCells : Prop :=
  ∀ (s : State) (a : Byte), s.cfg.wf = true → s.waiting → s.bound = true → s.offers (.txa a) →
    let tf := holdTicks s.cfg
    s.noReset (1 + (18 + 10 * tf)) →
    (∀ h ≤ 2 * tf, ∃ t, runs (1 + (1 + h)) s = .next t ∧ t.pads = ⟨true, true, true, true⟩) ∧
    (∀ j < 8,
      (∃ t, runs (1 + (2 + 2 * tf + j * (2 + tf))) s = .next t ∧
        t.pads = ⟨decide (j % 2 = 0), bitOf a (BitVec.ofNat 3 (7 - j)), true, true⟩) ∧
      ∀ h ≤ tf, ∃ t, runs (1 + (3 + 2 * tf + j * (2 + tf) + h)) s = .next t ∧ t.busy = true ∧
        t.pads = ⟨decide (j % 2 = 1), bitOf a (BitVec.ofNat 3 (7 - j)), true, true⟩) ∧
    ∃ t, runs (1 + (18 + 10 * tf)) s = .next t ∧ t.waiting ∧ t.pads = ⟨true, true, true, true⟩ ∧
      t.phase = false ∧ t.bitIdx = 0 ∧ (∀ b, t.byteAt b = s.byteAt b) ∧
      { t with
        pads := s.pads
        phase := s.phase
        bitIdx := s.bitIdx
        cmdr := s.cmdr
        loopIdx := s.loopIdx
        acc1 := s.acc1
        acc2 := s.acc2
        draws := s.draws
        env := s.env } = s

/-- R146, R147, R148: RXA releases the lines, seeds, and at each CLOCK toggle stores the DATA level of
the same sample, most significant bit first; the eighth toggle completes it. -/
def Obligations.RxaStoresBitAtToggle : Prop :=
  ∀ s : State,
    let c := s.levelAs .sigCurr .clock
    let d := s.levelAs .datCurr .data
    (s.atUop .raRelease → exec .rxa s = .next { s with
      pads := { s.pads with clkOe := false, datOe := false }
      ackv := 0
      bitIdx := 7
      st := .raSeed }) ∧
    (s.atUop .raSeed → exec .rxa s = .next { s with
      sigCurr := c
      datCurr := d
      sigPrev := c
      datPrev := d
      st := .raAwaitClock }) ∧
    (s.atUop .raAwaitClock → c = s.sigPrev → exec .rxa s = .next { s with sigCurr := c, datCurr := d }) ∧
    (s.atUop .raAwaitClock → c ≠ s.sigPrev →
      ∃ t, exec .rxa s = .next t ∧ t.sigCurr = c ∧ t.datCurr = d ∧ t.sigPrev = c ∧ t.datPrev = d ∧
        (∀ j : BitVec 3, bitOf t.ackv j = if j = s.bitIdx then d else bitOf s.ackv j) ∧
        (s.bitIdx ≠ 0 → t.bitIdx = s.bitIdx - 1 ∧ t.st = .raAwaitClock ∧ t.busy = true) ∧
        (s.bitIdx = 0 → t.bitIdx = 0 ∧ t.st = .idle ∧ t.busy = false) ∧
        { t with
          sigCurr := s.sigCurr
          datCurr := s.datCurr
          sigPrev := s.sigPrev
          datPrev := s.datPrev
          ackv := s.ackv
          bitIdx := s.bitIdx
          st := s.st
          busy := s.busy } = s)

/-! ## The bus and the read port (spec/20_memory.md, spec/10_state.md) -/

/-- R47: the drivers of a line are the devices whose direction bit for it is 1; without one it reads
HIGH, with agreeing ones their value. In contention a sample is the free value of its sampler and tick
(log 7). -/
def Obligations.BusLevelFollowsDrivers : Prop :=
  ∀ (s : State) (who : Sampler) (v : Level),
    let all := s.pads :: s.port.peers
    ((∀ p ∈ all, p.clkOe = false) → s.levelAs who .clock = true) ∧
    ((∀ p ∈ all, p.datOe = false) → s.levelAs who .data = true) ∧
    ((∃ p ∈ all, p.clkOe = true) → (∀ p ∈ all, p.clkOe = true → p.clkOut = v) →
      s.levelAs who .clock = v) ∧
    ((∃ p ∈ all, p.datOe = true) → (∀ p ∈ all, p.datOe = true → p.datOut = v) →
      s.levelAs who .data = v) ∧
    ((∃ p ∈ all, p.clkOe = true ∧ p.clkOut = v) → (∃ p ∈ all, p.clkOe = true ∧ p.clkOut = !v) →
      s.levelAs who .clock = Config.contendedLevel s.cfg.device who s.draws) ∧
    ((∃ p ∈ all, p.datOe = true ∧ p.datOut = v) → (∃ p ∈ all, p.datOe = true ∧ p.datOut = !v) →
      s.levelAs who .data = Config.contendedLevel s.cfg.device who s.draws)

/-- R26: the sixteen entries of the read port while BUSY = 0. -/
def Obligations.ReadPortShowsRegisters : Prop :=
  ∀ s : State, s.cfg.wf = true → s.busy = false →
    readPort s 0x0 = BitVec.ofBool false ++ BitVec.ofBool s.err ++ BitVec.ofBool s.short ++
      BitVec.ofBool s.ovf ++ BitVec.ofBool s.frameEnd ++ BitVec.ofBool s.csok ++
      BitVec.ofBool s.bound ++ BitVec.ofBool s.busy ∧
    readPort s 0x1 = s.len ∧ readPort s 0x2 = s.ackv ∧ readPort s 0x3 = s.dout ∧
    readPort s 0x4 = s.sum1 ∧ readPort s 0x5 = s.sum2 ∧ readPort s 0x6 = s.cfg.ownAddr ∧
    (readPort s 0x7).toNat = s.errCode.toNat ∧ (readPort s 0x8).toNat = s.st.code.toNat ∧
    readPort s 0x9 = s.byteIdx ∧ (readPort s 0xA).toNat = s.bitIdx.toNat ∧
    readPort s 0xB = 0#3 ++ BitVec.ofBool s.phase ++ BitVec.ofBool s.datCurr ++
      BitVec.ofBool s.sigCurr ++ BitVec.ofBool s.datPrev ++ BitVec.ofBool s.sigPrev ∧
    readPort s 0xC = 0#2 ++ BitVec.ofBool (s.levelAs .linesData .data) ++
      BitVec.ofBool (s.levelAs .linesClock .clock) ++ BitVec.ofBool s.pads.datOe ++
      BitVec.ofBool s.pads.clkOe ++ BitVec.ofBool s.pads.datOut ++ BitVec.ofBool s.pads.clkOut ∧
    (readPort s 0xD).toNat = s.cfg.payloadCap ∧
    (readPort s 0xF).toNat * 256 + (readPort s 0xE).toNat = s.cfg.tUs

/-- R27, R219: BUSY, BOUND and ERR of STATUS, ERRCODE, STATE and the constants are exact at all times. -/
def Obligations.ReadPortExactAtAllTimes : Prop :=
  ∀ s : State, s.cfg.wf = true →
    (readPort s 0x0).getLsbD 0 = s.busy ∧ (readPort s 0x0).getLsbD 1 = s.bound ∧
    (readPort s 0x0).getLsbD 6 = s.err ∧ (readPort s 0x7).toNat = s.errCode.toNat ∧
    (readPort s 0x8).toNat = s.st.code.toNat ∧ readPort s 0x6 = s.cfg.ownAddr ∧
    (readPort s 0xD).toNat = s.cfg.payloadCap ∧
    (readPort s 0xF).toNat * 256 + (readPort s 0xE).toNat = s.cfg.tUs

/-- R32, the "w" entries: while the command with opcode `op` runs, a tick without reset leaves unchanged
every register whose row has no "w" in its column. -/
def Obligations.CommandsWriteOnlyTheirRegisters : Prop :=
  ∀ s t : State, DeviceInv s → s.busy = true → s.port.rst = false → step s = .next t →
    let op := opField s.cmdr
    (op ∉ [0x2#4, 0x3#4, 0x4#4, 0x5#4, 0xB#4] → ∀ a, t.byteAt a = s.byteAt a) ∧
    (op ∉ [0x3#4, 0x4#4, 0x6#4, 0xB#4] → t.len = s.len) ∧
    (op ∉ [0x3#4, 0x4#4, 0x7#4] → t.sum1 = s.sum1 ∧ t.sum2 = s.sum2) ∧
    (op ∉ [0xB#4, 0xC#4] →
      t.sigPrev = s.sigPrev ∧ t.datPrev = s.datPrev ∧ t.sigCurr = s.sigCurr ∧ t.datCurr = s.datCurr) ∧
    (op ∉ [0xB#4] → t.frameEnd = s.frameEnd ∧ t.ovf = s.ovf ∧ t.short = s.short) ∧
    (op ∉ [0x9#4, 0xB#4] → t.byteIdx = s.byteIdx) ∧
    (op ∉ [0x9#4, 0xA#4, 0xB#4, 0xC#4] → t.bitIdx = s.bitIdx) ∧
    (op ∉ [0x9#4, 0xA#4] → t.phase = s.phase) ∧
    (op ∉ [0xC#4] → t.ackv = s.ackv) ∧
    (op ∉ [0x8#4] → t.dout = s.dout) ∧
    (op ∉ [0x9#4, 0xA#4] → t.pads.clkOut = s.pads.clkOut ∧ t.pads.datOut = s.pads.datOut) ∧
    (op ∉ [0x9#4, 0xA#4, 0xB#4, 0xC#4] → t.pads.clkOe = s.pads.clkOe ∧ t.pads.datOe = s.pads.datOe) ∧
    (op ∉ [0x7#4] → t.csok = s.csok) ∧
    (op ∉ [0x1#4] → t.bound = s.bound) ∧
    (op ∉ [0x9#4, 0xA#4, 0xB#4] → t.dlyCnt = s.dlyCnt) ∧
    t.err = s.err ∧ t.errCode = s.errCode ∧ t.cmdr = s.cmdr

/-! ## Invariants -/

/-- The invariant of Safety.lean holds of State.reset. -/
def Obligations.DeviceInvHoldsAtReset : Prop := DeviceInv State.reset

/-- The invariant of Safety.lean (R5, R12, R13, R16, R21, R22, R25, R41, R42, R103, R105, R121, R129) is
kept by every step, from every state that has it. -/
def Obligations.StepKeepsDeviceInv : Prop := ∀ s t : State, DeviceInv s → step s = .next t → DeviceInv t

/-- R42, R155: from a state with the invariant no step faults or refuses; no index outside the buffer
is formed. -/
def Obligations.StepAlwaysAnswersNext : Prop := ∀ s : State, DeviceInv s → ∃ t, step s = .next t

/-- R12, R13, R16, R22, R105: what the spec says holds at all times holds after any number of ticks
from a state with the invariant: LEN, the sums, the position, ST against BUSY, and TF_NORM never. -/
def Obligations.RegisterRangesHoldInEveryRun : Prop :=
  ∀ (n : Nat) (s t : State), DeviceInv s → runs n s = .next t →
    t.len.toNat ≤ t.cfg.payloadCap ∧ t.sum1.toNat ≤ 254 ∧ t.sum2.toNat ≤ 254 ∧
    t.byteIdx.toNat ≤ bufCap t.cfg ∧ (t.st = .idle ↔ t.busy = false) ∧ t.st ≠ .tfNorm

/-- R160: from every state with the invariant, every command but RXF and RXA is done within a bounded
number of ticks, whatever the bus and the port do, unless a reset comes first. The bound in this
statement is the model's, and generous. The spec's exact durations stand in the statements about each
command. -/
def Obligations.BoundedCommandsFinish : Prop :=
  ∀ s : State, DeviceInv s → s.busy = true → opField s.cmdr ∉ [0xB#4, 0xC#4] →
    s.noReset (4096 * (2 + holdTicks s.cfg)) →
    ∃ k ≤ 4096 * (2 + holdTicks s.cfg), ∃ t, runs k s = .next t ∧ t.busy = false ∧ t.st = .idle

/-- The model's choice (log 24): BUF is held as a list of written bytes with strictly rising addresses.
That form is kept in every tick of every command, in every state. -/
def Obligations.ExecKeepsMemoryForm : Prop :=
  ∀ (i : Instr) (s t : State), Memory.wf s.buf = true → exec i s = .next t → Memory.wf t.buf = true

/-! ## Two devices on one bus -/

/-- R151, on one clock and with both commands started in the same instant (log 17): a device that
executes RXA while the other executes TXA receives the byte, in the tick the spec says. -/
def Obligations.AcknowledgmentRoundTrip : Prop :=
  ∀ (A B : Node) (a : Byte), A.host.idle → B.host.idle → A.dev.env = [] → B.dev.env = [] →
    A.dev.cfg.wf = true → B.dev.cfg.wf = true →
    A.dev.atUop .raRelease → decode A.dev.cmdr = .ok .rxa →
    B.dev.atUop .taDrive → decode B.dev.cmdr = .ok (.txa a) →
    let tf := holdTicks B.dev.cfg
    (∃ C D, netRun [A, B] (List.replicate (17 + 9 * tf) [true, true]) = .next [C, D] ∧
      C.dev.busy = true) ∧
    (∃ C D, netRun [A, B] (List.replicate (18 + 9 * tf) [true, true]) = .next [C, D] ∧
      C.dev.ackv = a ∧ C.dev.busy = false ∧ D.dev.busy = true) ∧
    ∃ C D, netRun [A, B] (List.replicate (18 + 10 * tf) [true, true]) = .next [C, D] ∧
      C.dev.ackv = a ∧ C.dev.busy = false ∧ D.dev.busy = false

/-- R134, R223, on one clock and with both commands started in the same instant (log 17), for
`1 ≤ m < BUF_CAP`: a device that executes RXF while the other transmits `m` bytes with TXF receives them
all, in the tick the spec says, when the buffer has room and the settle delay fits (conditions (iv) and
(v)). -/
def Obligations.FrameRoundTrip : Prop :=
  ∀ (A B : Node) (m : Byte), A.host.idle → B.host.idle → A.dev.env = [] → B.dev.env = [] →
    A.dev.cfg.wf = true → B.dev.cfg.wf = true →
    A.dev.atUop .tfDrive → decode A.dev.cmdr = .ok (.txf m) →
    B.dev.atUop .rfRelease → decode B.dev.cmdr = .ok .rxf →
    1 ≤ m.toNat → m.toNat ≤ bufCap A.dev.cfg → m.toNat < bufCap B.dev.cfg →
    settleTicks B.dev.cfg + 3 < holdTicks A.dev.cfg →
    let tf := holdTicks A.dev.cfg
    let v := 5 + 4 * tf + 8 * m.toNat * (2 + tf)
    (∃ C D, netRun [A, B] (List.replicate (v + settleTicks B.dev.cfg + 1) [true, true]) = .next [C, D] ∧
      D.dev.busy = true) ∧
    ∃ C D, netRun [A, B] (List.replicate (v + settleTicks B.dev.cfg + 2) [true, true]) = .next [C, D] ∧
      D.dev.busy = false ∧ D.dev.byteIdx = m ∧ D.dev.frameEnd = true ∧ D.dev.ovf = false ∧
      (∀ i < m.toNat, D.dev.byteAt i = A.dev.byteAt i) ∧
      (3 ≤ m.toNat → D.dev.len.toNat = m.toNat - 3 ∧ D.dev.short = false)

/-! ## The host (spec/45_session_host.md) -/

/-- R166 to R169: the decisions of a host. It retransmits the same length until the accept byte, which
ends `send` with no further transmission. It discards a runt without an acknowledgment, fetches
`BUF[LEN + 2]` of any other frame, discards a frame for another address without an acknowledgment, and
acknowledges by CSOK. -/
def Obligations.HostDecisions : Prop :=
  ∀ (h : Session) (read : BitVec 4 → Byte) (n : Byte),
    (h.phase = .testAck n → read 0x2 ≠ 0x6D →
      h.move read = (some (.txf (n + 3)), { h with phase := .awaitAck n })) ∧
    (h.phase = .testAck n → read 0x2 = 0x6D →
      (h.move read).2.returned = h.returned ++ [[]] ∧ (∀ m, (h.move read).1 ≠ some (.txf m)) ∧
      (h.jobs = [] → (h.move read).1 = none ∧ (h.move read).2.phase = .between)) ∧
    (h.phase = .testFrame → (read 0x0).getLsbD 5 = true →
      h.move read = (some .clr, { h with phase := .runDecoder })) ∧
    (h.phase = .testFrame → (read 0x0).getLsbD 5 = false →
      h.move read = (some (.getb (read 0x1 + 2)), { h with phase := .testAddress (read 0x1) })) ∧
    (h.phase = .testAddress n → read 0x3 ≠ read 0x6 →
      h.move read = (some .clr, { h with phase := .runDecoder })) ∧
    (h.phase = .testAddress n → read 0x3 = read 0x6 →
      h.move read = (some .vfy, { h with phase := .testChecksum n })) ∧
    (h.phase = .testChecksum n → (read 0x0).getLsbD 2 = true →
      h.move read = (some (.txa 0x6D), { h with phase := .extract n })) ∧
    (h.phase = .testChecksum n → (read 0x0).getLsbD 2 = false →
      h.move read = (some (.txa 0xAA), { h with phase := .discard }))

/-- R165, R171, R203: a host begins with BIND and goes on to its jobs only when it sees STATUS = 0x02.
After every reset of its device it begins there again. So it never offers a line command to a device that
is not bound, in any run that begins with a fresh host. -/
def Obligations.HostStartsUpFirst : Prop :=
  (∀ (c : Config) (env : List PortIn) (jobs : List Job) (redo : Bool) (wait : List Nat),
    (Node.fresh c env (Session.fresh jobs redo wait)).startsUpFirst) ∧
  (∀ (h : Session) (read : BitVec 4 → Byte), h.phase = .startUp →
    h.move read = (some .bind, { h with phase := .testBound })) ∧
  (∀ (h : Session) (read : BitVec 4 → Byte), h.phase = .testBound → read 0x0 = 0x02 →
    h.move read = h.start) ∧
  (∀ (n : Node) (others : List Pads), n.dev.port.rst = true →
    ∃ n', n.tick others = .next n' ∧ n'.host.phase = .startUp ∧ n'.dev.busy = false ∧
      n'.dev.bound = false) ∧
  (∀ (n n' : Node) (others : List Pads), n.startsUpFirst → n.tick others = .next n' → n'.startsUpFirst) ∧
  ∀ (n : Node) (d : State) (i : Instr), n.startsUpFirst → (n.hostMove d).1 = some i →
    isLineCommand i = true → n.dev.bound = true

/-- R165: the host is the only agent that issues commands to a device with a host: a word that the
model's input queue (log 3) shows makes no difference to the tick. -/
def Obligations.OnlyHostIssuesCommands : Prop :=
  ∀ (n : Node) (others : List Pads) (v : Bool) (w : CmdWord),
    ({ n with dev := { n.dev with
        env := { n.dev.port with cmdValid := v, cmd := w } :: n.dev.env.tail } } : Node).tick others =
      n.tick others

/-! ## Any number of devices on one bus (spec/20_memory.md) -/

/-- R48, R49: in one instant every clocked device takes a tick on the pads that all the others had before
it, and the rest stay as they are. Every device finds the same on a line, and outside contention every
sampler of every device gets the same level. -/
def Obligations.BusIsOneMedium : Prop :=
  ∀ (before after : List Node) (n : Node),
    (∀ (cs : List Bool) (ns' : List Node), netTick (before ++ n :: after) cs = .next ns' →
      ∃ before' n' after', ns' = before' ++ n' :: after' ∧ before'.length = before.length ∧
        after'.length = after.length ∧
        (cs.getD before.length false = true → n.tick (padsOf (before ++ after)) = .next n') ∧
        (cs.getD before.length false = false → n' = n)) ∧
    ∀ l : Line,
      (n.dev.seeing (padsOf (before ++ after))).busLevel l = netLevel l (before ++ n :: after) ∧
      (netLevel l (before ++ n :: after) ≠ .contention → ∀ (who : Sampler) (draw : Level),
        (n.dev.seeing (padsOf (before ++ after))).levelAs who l =
          (netLevel l (before ++ n :: after)).sampled draw)

end Statements
end

