-- ==== Sys2Proof/Laws/Bus.lean ====
section
/-! SUPPORT. The level of a line does not depend on the order of its drivers. -/

namespace Sys2Proof.Machine

/-- The three cases of R47 by which levels are driven. -/
theorem resolve_eq (vs : List Level) :
    resolve vs =
      if false ∈ vs then if true ∈ vs then .contention else .agreed false
      else if true ∈ vs then .agreed true else .released := by
  cases vs with
  | nil => rfl
  | cons v vs => cases v <;> simp [resolve, List.all_eq_true]

theorem resolve_perm {vs ws : List Level} (h : vs.Perm ws) : resolve vs = resolve ws := by
  simp only [resolve_eq, h.mem_iff]

theorem drivers_perm (l : Line) {ps qs : List Pads} (h : ps.Perm qs) :
    (drivers l ps).Perm (drivers l qs) := h.filterMap _

end Sys2Proof.Machine
end

