-- ==== Sys2Proof/Laws/State.lean ====
section
/-! SUPPORT. What every state update does to every field: one lemma per field per update, so that no
later proof unfolds an update. -/

namespace Sys2Proof.Machine

variable (s : State)

/-! ## putByte -/

@[simp] theorem State.putByte_cfg (i : Nat) (v : Byte) : (s.putByte i v).cfg = s.cfg := rfl
@[simp] theorem State.putByte_buf (i : Nat) (v : Byte) : (s.putByte i v).buf = Memory.store s.buf i v := rfl
@[simp] theorem State.putByte_len (i : Nat) (v : Byte) : (s.putByte i v).len = s.len := rfl
@[simp] theorem State.putByte_sum1 (i : Nat) (v : Byte) : (s.putByte i v).sum1 = s.sum1 := rfl
@[simp] theorem State.putByte_sum2 (i : Nat) (v : Byte) : (s.putByte i v).sum2 = s.sum2 := rfl
@[simp] theorem State.putByte_sigPrev (i : Nat) (v : Byte) : (s.putByte i v).sigPrev = s.sigPrev := rfl
@[simp] theorem State.putByte_datPrev (i : Nat) (v : Byte) : (s.putByte i v).datPrev = s.datPrev := rfl
@[simp] theorem State.putByte_sigCurr (i : Nat) (v : Byte) : (s.putByte i v).sigCurr = s.sigCurr := rfl
@[simp] theorem State.putByte_datCurr (i : Nat) (v : Byte) : (s.putByte i v).datCurr = s.datCurr := rfl
@[simp] theorem State.putByte_frameEnd (i : Nat) (v : Byte) : (s.putByte i v).frameEnd = s.frameEnd := rfl
@[simp] theorem State.putByte_byteIdx (i : Nat) (v : Byte) : (s.putByte i v).byteIdx = s.byteIdx := rfl
@[simp] theorem State.putByte_bitIdx (i : Nat) (v : Byte) : (s.putByte i v).bitIdx = s.bitIdx := rfl
@[simp] theorem State.putByte_phase (i : Nat) (v : Byte) : (s.putByte i v).phase = s.phase := rfl
@[simp] theorem State.putByte_ackv (i : Nat) (v : Byte) : (s.putByte i v).ackv = s.ackv := rfl
@[simp] theorem State.putByte_dout (i : Nat) (v : Byte) : (s.putByte i v).dout = s.dout := rfl
@[simp] theorem State.putByte_pads (i : Nat) (v : Byte) : (s.putByte i v).pads = s.pads := rfl
@[simp] theorem State.putByte_dlyCnt (i : Nat) (v : Byte) : (s.putByte i v).dlyCnt = s.dlyCnt := rfl
@[simp] theorem State.putByte_st (i : Nat) (v : Byte) : (s.putByte i v).st = s.st := rfl
@[simp] theorem State.putByte_cmdr (i : Nat) (v : Byte) : (s.putByte i v).cmdr = s.cmdr := rfl
@[simp] theorem State.putByte_busy (i : Nat) (v : Byte) : (s.putByte i v).busy = s.busy := rfl
@[simp] theorem State.putByte_bound (i : Nat) (v : Byte) : (s.putByte i v).bound = s.bound := rfl
@[simp] theorem State.putByte_csok (i : Nat) (v : Byte) : (s.putByte i v).csok = s.csok := rfl
@[simp] theorem State.putByte_ovf (i : Nat) (v : Byte) : (s.putByte i v).ovf = s.ovf := rfl
@[simp] theorem State.putByte_short (i : Nat) (v : Byte) : (s.putByte i v).short = s.short := rfl
@[simp] theorem State.putByte_err (i : Nat) (v : Byte) : (s.putByte i v).err = s.err := rfl
@[simp] theorem State.putByte_errCode (i : Nat) (v : Byte) : (s.putByte i v).errCode = s.errCode := rfl
@[simp] theorem State.putByte_loopIdx (i : Nat) (v : Byte) : (s.putByte i v).loopIdx = s.loopIdx := rfl
@[simp] theorem State.putByte_acc1 (i : Nat) (v : Byte) : (s.putByte i v).acc1 = s.acc1 := rfl
@[simp] theorem State.putByte_acc2 (i : Nat) (v : Byte) : (s.putByte i v).acc2 = s.acc2 := rfl
@[simp] theorem State.putByte_draws (i : Nat) (v : Byte) : (s.putByte i v).draws = s.draws := rfl
@[simp] theorem State.putByte_resets (i : Nat) (v : Byte) : (s.putByte i v).resets = s.resets := rfl
@[simp] theorem State.putByte_env (i : Nat) (v : Byte) : (s.putByte i v).env = s.env := rfl

/-! ## putBit -/

@[simp] theorem State.putBit_cfg (i : Nat) (j : BitVec 3) (b : Level) : (s.putBit i j b).cfg = s.cfg := rfl
@[simp] theorem State.putBit_buf (i : Nat) (j : BitVec 3) (b : Level) : (s.putBit i j b).buf = Memory.store s.buf i (setBit (s.byteAt i) j b) := rfl
@[simp] theorem State.putBit_len (i : Nat) (j : BitVec 3) (b : Level) : (s.putBit i j b).len = s.len := rfl
@[simp] theorem State.putBit_sum1 (i : Nat) (j : BitVec 3) (b : Level) : (s.putBit i j b).sum1 = s.sum1 := rfl
@[simp] theorem State.putBit_sum2 (i : Nat) (j : BitVec 3) (b : Level) : (s.putBit i j b).sum2 = s.sum2 := rfl
@[simp] theorem State.putBit_sigPrev (i : Nat) (j : BitVec 3) (b : Level) : (s.putBit i j b).sigPrev = s.sigPrev := rfl
@[simp] theorem State.putBit_datPrev (i : Nat) (j : BitVec 3) (b : Level) : (s.putBit i j b).datPrev = s.datPrev := rfl
@[simp] theorem State.putBit_sigCurr (i : Nat) (j : BitVec 3) (b : Level) : (s.putBit i j b).sigCurr = s.sigCurr := rfl
@[simp] theorem State.putBit_datCurr (i : Nat) (j : BitVec 3) (b : Level) : (s.putBit i j b).datCurr = s.datCurr := rfl
@[simp] theorem State.putBit_frameEnd (i : Nat) (j : BitVec 3) (b : Level) : (s.putBit i j b).frameEnd = s.frameEnd := rfl
@[simp] theorem State.putBit_byteIdx (i : Nat) (j : BitVec 3) (b : Level) : (s.putBit i j b).byteIdx = s.byteIdx := rfl
@[simp] theorem State.putBit_bitIdx (i : Nat) (j : BitVec 3) (b : Level) : (s.putBit i j b).bitIdx = s.bitIdx := rfl
@[simp] theorem State.putBit_phase (i : Nat) (j : BitVec 3) (b : Level) : (s.putBit i j b).phase = s.phase := rfl
@[simp] theorem State.putBit_ackv (i : Nat) (j : BitVec 3) (b : Level) : (s.putBit i j b).ackv = s.ackv := rfl
@[simp] theorem State.putBit_dout (i : Nat) (j : BitVec 3) (b : Level) : (s.putBit i j b).dout = s.dout := rfl
@[simp] theorem State.putBit_pads (i : Nat) (j : BitVec 3) (b : Level) : (s.putBit i j b).pads = s.pads := rfl
@[simp] theorem State.putBit_dlyCnt (i : Nat) (j : BitVec 3) (b : Level) : (s.putBit i j b).dlyCnt = s.dlyCnt := rfl
@[simp] theorem State.putBit_st (i : Nat) (j : BitVec 3) (b : Level) : (s.putBit i j b).st = s.st := rfl
@[simp] theorem State.putBit_cmdr (i : Nat) (j : BitVec 3) (b : Level) : (s.putBit i j b).cmdr = s.cmdr := rfl
@[simp] theorem State.putBit_busy (i : Nat) (j : BitVec 3) (b : Level) : (s.putBit i j b).busy = s.busy := rfl
@[simp] theorem State.putBit_bound (i : Nat) (j : BitVec 3) (b : Level) : (s.putBit i j b).bound = s.bound := rfl
@[simp] theorem State.putBit_csok (i : Nat) (j : BitVec 3) (b : Level) : (s.putBit i j b).csok = s.csok := rfl
@[simp] theorem State.putBit_ovf (i : Nat) (j : BitVec 3) (b : Level) : (s.putBit i j b).ovf = s.ovf := rfl
@[simp] theorem State.putBit_short (i : Nat) (j : BitVec 3) (b : Level) : (s.putBit i j b).short = s.short := rfl
@[simp] theorem State.putBit_err (i : Nat) (j : BitVec 3) (b : Level) : (s.putBit i j b).err = s.err := rfl
@[simp] theorem State.putBit_errCode (i : Nat) (j : BitVec 3) (b : Level) : (s.putBit i j b).errCode = s.errCode := rfl
@[simp] theorem State.putBit_loopIdx (i : Nat) (j : BitVec 3) (b : Level) : (s.putBit i j b).loopIdx = s.loopIdx := rfl
@[simp] theorem State.putBit_acc1 (i : Nat) (j : BitVec 3) (b : Level) : (s.putBit i j b).acc1 = s.acc1 := rfl
@[simp] theorem State.putBit_acc2 (i : Nat) (j : BitVec 3) (b : Level) : (s.putBit i j b).acc2 = s.acc2 := rfl
@[simp] theorem State.putBit_draws (i : Nat) (j : BitVec 3) (b : Level) : (s.putBit i j b).draws = s.draws := rfl
@[simp] theorem State.putBit_resets (i : Nat) (j : BitVec 3) (b : Level) : (s.putBit i j b).resets = s.resets := rfl
@[simp] theorem State.putBit_env (i : Nat) (j : BitVec 3) (b : Level) : (s.putBit i j b).env = s.env := rfl

/-! ## driveBothHigh -/

@[simp] theorem State.driveBothHigh_cfg : s.driveBothHigh.cfg = s.cfg := rfl
@[simp] theorem State.driveBothHigh_buf : s.driveBothHigh.buf = s.buf := rfl
@[simp] theorem State.driveBothHigh_len : s.driveBothHigh.len = s.len := rfl
@[simp] theorem State.driveBothHigh_sum1 : s.driveBothHigh.sum1 = s.sum1 := rfl
@[simp] theorem State.driveBothHigh_sum2 : s.driveBothHigh.sum2 = s.sum2 := rfl
@[simp] theorem State.driveBothHigh_sigPrev : s.driveBothHigh.sigPrev = s.sigPrev := rfl
@[simp] theorem State.driveBothHigh_datPrev : s.driveBothHigh.datPrev = s.datPrev := rfl
@[simp] theorem State.driveBothHigh_sigCurr : s.driveBothHigh.sigCurr = s.sigCurr := rfl
@[simp] theorem State.driveBothHigh_datCurr : s.driveBothHigh.datCurr = s.datCurr := rfl
@[simp] theorem State.driveBothHigh_frameEnd : s.driveBothHigh.frameEnd = s.frameEnd := rfl
@[simp] theorem State.driveBothHigh_byteIdx : s.driveBothHigh.byteIdx = s.byteIdx := rfl
@[simp] theorem State.driveBothHigh_bitIdx : s.driveBothHigh.bitIdx = s.bitIdx := rfl
@[simp] theorem State.driveBothHigh_phase : s.driveBothHigh.phase = s.phase := rfl
@[simp] theorem State.driveBothHigh_ackv : s.driveBothHigh.ackv = s.ackv := rfl
@[simp] theorem State.driveBothHigh_dout : s.driveBothHigh.dout = s.dout := rfl
@[simp] theorem State.driveBothHigh_pads : s.driveBothHigh.pads = ⟨true, true, true, true⟩ := rfl
@[simp] theorem State.driveBothHigh_dlyCnt : s.driveBothHigh.dlyCnt = s.dlyCnt := rfl
@[simp] theorem State.driveBothHigh_st : s.driveBothHigh.st = s.st := rfl
@[simp] theorem State.driveBothHigh_cmdr : s.driveBothHigh.cmdr = s.cmdr := rfl
@[simp] theorem State.driveBothHigh_busy : s.driveBothHigh.busy = s.busy := rfl
@[simp] theorem State.driveBothHigh_bound : s.driveBothHigh.bound = s.bound := rfl
@[simp] theorem State.driveBothHigh_csok : s.driveBothHigh.csok = s.csok := rfl
@[simp] theorem State.driveBothHigh_ovf : s.driveBothHigh.ovf = s.ovf := rfl
@[simp] theorem State.driveBothHigh_short : s.driveBothHigh.short = s.short := rfl
@[simp] theorem State.driveBothHigh_err : s.driveBothHigh.err = s.err := rfl
@[simp] theorem State.driveBothHigh_errCode : s.driveBothHigh.errCode = s.errCode := rfl
@[simp] theorem State.driveBothHigh_loopIdx : s.driveBothHigh.loopIdx = s.loopIdx := rfl
@[simp] theorem State.driveBothHigh_acc1 : s.driveBothHigh.acc1 = s.acc1 := rfl
@[simp] theorem State.driveBothHigh_acc2 : s.driveBothHigh.acc2 = s.acc2 := rfl
@[simp] theorem State.driveBothHigh_draws : s.driveBothHigh.draws = s.draws := rfl
@[simp] theorem State.driveBothHigh_resets : s.driveBothHigh.resets = s.resets := rfl
@[simp] theorem State.driveBothHigh_env : s.driveBothHigh.env = s.env := rfl

/-! ## writeClock -/

@[simp] theorem State.writeClock_cfg (v : Level) : (s.writeClock v).cfg = s.cfg := rfl
@[simp] theorem State.writeClock_buf (v : Level) : (s.writeClock v).buf = s.buf := rfl
@[simp] theorem State.writeClock_len (v : Level) : (s.writeClock v).len = s.len := rfl
@[simp] theorem State.writeClock_sum1 (v : Level) : (s.writeClock v).sum1 = s.sum1 := rfl
@[simp] theorem State.writeClock_sum2 (v : Level) : (s.writeClock v).sum2 = s.sum2 := rfl
@[simp] theorem State.writeClock_sigPrev (v : Level) : (s.writeClock v).sigPrev = s.sigPrev := rfl
@[simp] theorem State.writeClock_datPrev (v : Level) : (s.writeClock v).datPrev = s.datPrev := rfl
@[simp] theorem State.writeClock_sigCurr (v : Level) : (s.writeClock v).sigCurr = s.sigCurr := rfl
@[simp] theorem State.writeClock_datCurr (v : Level) : (s.writeClock v).datCurr = s.datCurr := rfl
@[simp] theorem State.writeClock_frameEnd (v : Level) : (s.writeClock v).frameEnd = s.frameEnd := rfl
@[simp] theorem State.writeClock_byteIdx (v : Level) : (s.writeClock v).byteIdx = s.byteIdx := rfl
@[simp] theorem State.writeClock_bitIdx (v : Level) : (s.writeClock v).bitIdx = s.bitIdx := rfl
@[simp] theorem State.writeClock_phase (v : Level) : (s.writeClock v).phase = s.phase := rfl
@[simp] theorem State.writeClock_ackv (v : Level) : (s.writeClock v).ackv = s.ackv := rfl
@[simp] theorem State.writeClock_dout (v : Level) : (s.writeClock v).dout = s.dout := rfl
@[simp] theorem State.writeClock_pads (v : Level) : (s.writeClock v).pads = { s.pads with clkOut := v } := rfl
@[simp] theorem State.writeClock_dlyCnt (v : Level) : (s.writeClock v).dlyCnt = s.dlyCnt := rfl
@[simp] theorem State.writeClock_st (v : Level) : (s.writeClock v).st = s.st := rfl
@[simp] theorem State.writeClock_cmdr (v : Level) : (s.writeClock v).cmdr = s.cmdr := rfl
@[simp] theorem State.writeClock_busy (v : Level) : (s.writeClock v).busy = s.busy := rfl
@[simp] theorem State.writeClock_bound (v : Level) : (s.writeClock v).bound = s.bound := rfl
@[simp] theorem State.writeClock_csok (v : Level) : (s.writeClock v).csok = s.csok := rfl
@[simp] theorem State.writeClock_ovf (v : Level) : (s.writeClock v).ovf = s.ovf := rfl
@[simp] theorem State.writeClock_short (v : Level) : (s.writeClock v).short = s.short := rfl
@[simp] theorem State.writeClock_err (v : Level) : (s.writeClock v).err = s.err := rfl
@[simp] theorem State.writeClock_errCode (v : Level) : (s.writeClock v).errCode = s.errCode := rfl
@[simp] theorem State.writeClock_loopIdx (v : Level) : (s.writeClock v).loopIdx = s.loopIdx := rfl
@[simp] theorem State.writeClock_acc1 (v : Level) : (s.writeClock v).acc1 = s.acc1 := rfl
@[simp] theorem State.writeClock_acc2 (v : Level) : (s.writeClock v).acc2 = s.acc2 := rfl
@[simp] theorem State.writeClock_draws (v : Level) : (s.writeClock v).draws = s.draws := rfl
@[simp] theorem State.writeClock_resets (v : Level) : (s.writeClock v).resets = s.resets := rfl
@[simp] theorem State.writeClock_env (v : Level) : (s.writeClock v).env = s.env := rfl

/-! ## writeData -/

@[simp] theorem State.writeData_cfg (v : Level) : (s.writeData v).cfg = s.cfg := rfl
@[simp] theorem State.writeData_buf (v : Level) : (s.writeData v).buf = s.buf := rfl
@[simp] theorem State.writeData_len (v : Level) : (s.writeData v).len = s.len := rfl
@[simp] theorem State.writeData_sum1 (v : Level) : (s.writeData v).sum1 = s.sum1 := rfl
@[simp] theorem State.writeData_sum2 (v : Level) : (s.writeData v).sum2 = s.sum2 := rfl
@[simp] theorem State.writeData_sigPrev (v : Level) : (s.writeData v).sigPrev = s.sigPrev := rfl
@[simp] theorem State.writeData_datPrev (v : Level) : (s.writeData v).datPrev = s.datPrev := rfl
@[simp] theorem State.writeData_sigCurr (v : Level) : (s.writeData v).sigCurr = s.sigCurr := rfl
@[simp] theorem State.writeData_datCurr (v : Level) : (s.writeData v).datCurr = s.datCurr := rfl
@[simp] theorem State.writeData_frameEnd (v : Level) : (s.writeData v).frameEnd = s.frameEnd := rfl
@[simp] theorem State.writeData_byteIdx (v : Level) : (s.writeData v).byteIdx = s.byteIdx := rfl
@[simp] theorem State.writeData_bitIdx (v : Level) : (s.writeData v).bitIdx = s.bitIdx := rfl
@[simp] theorem State.writeData_phase (v : Level) : (s.writeData v).phase = s.phase := rfl
@[simp] theorem State.writeData_ackv (v : Level) : (s.writeData v).ackv = s.ackv := rfl
@[simp] theorem State.writeData_dout (v : Level) : (s.writeData v).dout = s.dout := rfl
@[simp] theorem State.writeData_pads (v : Level) : (s.writeData v).pads = { s.pads with datOut := v } := rfl
@[simp] theorem State.writeData_dlyCnt (v : Level) : (s.writeData v).dlyCnt = s.dlyCnt := rfl
@[simp] theorem State.writeData_st (v : Level) : (s.writeData v).st = s.st := rfl
@[simp] theorem State.writeData_cmdr (v : Level) : (s.writeData v).cmdr = s.cmdr := rfl
@[simp] theorem State.writeData_busy (v : Level) : (s.writeData v).busy = s.busy := rfl
@[simp] theorem State.writeData_bound (v : Level) : (s.writeData v).bound = s.bound := rfl
@[simp] theorem State.writeData_csok (v : Level) : (s.writeData v).csok = s.csok := rfl
@[simp] theorem State.writeData_ovf (v : Level) : (s.writeData v).ovf = s.ovf := rfl
@[simp] theorem State.writeData_short (v : Level) : (s.writeData v).short = s.short := rfl
@[simp] theorem State.writeData_err (v : Level) : (s.writeData v).err = s.err := rfl
@[simp] theorem State.writeData_errCode (v : Level) : (s.writeData v).errCode = s.errCode := rfl
@[simp] theorem State.writeData_loopIdx (v : Level) : (s.writeData v).loopIdx = s.loopIdx := rfl
@[simp] theorem State.writeData_acc1 (v : Level) : (s.writeData v).acc1 = s.acc1 := rfl
@[simp] theorem State.writeData_acc2 (v : Level) : (s.writeData v).acc2 = s.acc2 := rfl
@[simp] theorem State.writeData_draws (v : Level) : (s.writeData v).draws = s.draws := rfl
@[simp] theorem State.writeData_resets (v : Level) : (s.writeData v).resets = s.resets := rfl
@[simp] theorem State.writeData_env (v : Level) : (s.writeData v).env = s.env := rfl

/-! ## writeBothHigh -/

@[simp] theorem State.writeBothHigh_cfg : s.writeBothHigh.cfg = s.cfg := rfl
@[simp] theorem State.writeBothHigh_buf : s.writeBothHigh.buf = s.buf := rfl
@[simp] theorem State.writeBothHigh_len : s.writeBothHigh.len = s.len := rfl
@[simp] theorem State.writeBothHigh_sum1 : s.writeBothHigh.sum1 = s.sum1 := rfl
@[simp] theorem State.writeBothHigh_sum2 : s.writeBothHigh.sum2 = s.sum2 := rfl
@[simp] theorem State.writeBothHigh_sigPrev : s.writeBothHigh.sigPrev = s.sigPrev := rfl
@[simp] theorem State.writeBothHigh_datPrev : s.writeBothHigh.datPrev = s.datPrev := rfl
@[simp] theorem State.writeBothHigh_sigCurr : s.writeBothHigh.sigCurr = s.sigCurr := rfl
@[simp] theorem State.writeBothHigh_datCurr : s.writeBothHigh.datCurr = s.datCurr := rfl
@[simp] theorem State.writeBothHigh_frameEnd : s.writeBothHigh.frameEnd = s.frameEnd := rfl
@[simp] theorem State.writeBothHigh_byteIdx : s.writeBothHigh.byteIdx = s.byteIdx := rfl
@[simp] theorem State.writeBothHigh_bitIdx : s.writeBothHigh.bitIdx = s.bitIdx := rfl
@[simp] theorem State.writeBothHigh_phase : s.writeBothHigh.phase = s.phase := rfl
@[simp] theorem State.writeBothHigh_ackv : s.writeBothHigh.ackv = s.ackv := rfl
@[simp] theorem State.writeBothHigh_dout : s.writeBothHigh.dout = s.dout := rfl
@[simp] theorem State.writeBothHigh_pads : s.writeBothHigh.pads = { s.pads with clkOut := true, datOut := true } := rfl
@[simp] theorem State.writeBothHigh_dlyCnt : s.writeBothHigh.dlyCnt = s.dlyCnt := rfl
@[simp] theorem State.writeBothHigh_st : s.writeBothHigh.st = s.st := rfl
@[simp] theorem State.writeBothHigh_cmdr : s.writeBothHigh.cmdr = s.cmdr := rfl
@[simp] theorem State.writeBothHigh_busy : s.writeBothHigh.busy = s.busy := rfl
@[simp] theorem State.writeBothHigh_bound : s.writeBothHigh.bound = s.bound := rfl
@[simp] theorem State.writeBothHigh_csok : s.writeBothHigh.csok = s.csok := rfl
@[simp] theorem State.writeBothHigh_ovf : s.writeBothHigh.ovf = s.ovf := rfl
@[simp] theorem State.writeBothHigh_short : s.writeBothHigh.short = s.short := rfl
@[simp] theorem State.writeBothHigh_err : s.writeBothHigh.err = s.err := rfl
@[simp] theorem State.writeBothHigh_errCode : s.writeBothHigh.errCode = s.errCode := rfl
@[simp] theorem State.writeBothHigh_loopIdx : s.writeBothHigh.loopIdx = s.loopIdx := rfl
@[simp] theorem State.writeBothHigh_acc1 : s.writeBothHigh.acc1 = s.acc1 := rfl
@[simp] theorem State.writeBothHigh_acc2 : s.writeBothHigh.acc2 = s.acc2 := rfl
@[simp] theorem State.writeBothHigh_draws : s.writeBothHigh.draws = s.draws := rfl
@[simp] theorem State.writeBothHigh_resets : s.writeBothHigh.resets = s.resets := rfl
@[simp] theorem State.writeBothHigh_env : s.writeBothHigh.env = s.env := rfl

/-! ## releaseBoth -/

@[simp] theorem State.releaseBoth_cfg : s.releaseBoth.cfg = s.cfg := rfl
@[simp] theorem State.releaseBoth_buf : s.releaseBoth.buf = s.buf := rfl
@[simp] theorem State.releaseBoth_len : s.releaseBoth.len = s.len := rfl
@[simp] theorem State.releaseBoth_sum1 : s.releaseBoth.sum1 = s.sum1 := rfl
@[simp] theorem State.releaseBoth_sum2 : s.releaseBoth.sum2 = s.sum2 := rfl
@[simp] theorem State.releaseBoth_sigPrev : s.releaseBoth.sigPrev = s.sigPrev := rfl
@[simp] theorem State.releaseBoth_datPrev : s.releaseBoth.datPrev = s.datPrev := rfl
@[simp] theorem State.releaseBoth_sigCurr : s.releaseBoth.sigCurr = s.sigCurr := rfl
@[simp] theorem State.releaseBoth_datCurr : s.releaseBoth.datCurr = s.datCurr := rfl
@[simp] theorem State.releaseBoth_frameEnd : s.releaseBoth.frameEnd = s.frameEnd := rfl
@[simp] theorem State.releaseBoth_byteIdx : s.releaseBoth.byteIdx = s.byteIdx := rfl
@[simp] theorem State.releaseBoth_bitIdx : s.releaseBoth.bitIdx = s.bitIdx := rfl
@[simp] theorem State.releaseBoth_phase : s.releaseBoth.phase = s.phase := rfl
@[simp] theorem State.releaseBoth_ackv : s.releaseBoth.ackv = s.ackv := rfl
@[simp] theorem State.releaseBoth_dout : s.releaseBoth.dout = s.dout := rfl
@[simp] theorem State.releaseBoth_pads : s.releaseBoth.pads = { s.pads with clkOe := false, datOe := false } := rfl
@[simp] theorem State.releaseBoth_dlyCnt : s.releaseBoth.dlyCnt = s.dlyCnt := rfl
@[simp] theorem State.releaseBoth_st : s.releaseBoth.st = s.st := rfl
@[simp] theorem State.releaseBoth_cmdr : s.releaseBoth.cmdr = s.cmdr := rfl
@[simp] theorem State.releaseBoth_busy : s.releaseBoth.busy = s.busy := rfl
@[simp] theorem State.releaseBoth_bound : s.releaseBoth.bound = s.bound := rfl
@[simp] theorem State.releaseBoth_csok : s.releaseBoth.csok = s.csok := rfl
@[simp] theorem State.releaseBoth_ovf : s.releaseBoth.ovf = s.ovf := rfl
@[simp] theorem State.releaseBoth_short : s.releaseBoth.short = s.short := rfl
@[simp] theorem State.releaseBoth_err : s.releaseBoth.err = s.err := rfl
@[simp] theorem State.releaseBoth_errCode : s.releaseBoth.errCode = s.errCode := rfl
@[simp] theorem State.releaseBoth_loopIdx : s.releaseBoth.loopIdx = s.loopIdx := rfl
@[simp] theorem State.releaseBoth_acc1 : s.releaseBoth.acc1 = s.acc1 := rfl
@[simp] theorem State.releaseBoth_acc2 : s.releaseBoth.acc2 = s.acc2 := rfl
@[simp] theorem State.releaseBoth_draws : s.releaseBoth.draws = s.draws := rfl
@[simp] theorem State.releaseBoth_resets : s.releaseBoth.resets = s.resets := rfl
@[simp] theorem State.releaseBoth_env : s.releaseBoth.env = s.env := rfl

/-! ## sample2 -/

@[simp] theorem State.sample2_cfg : s.sample2.cfg = s.cfg := rfl
@[simp] theorem State.sample2_buf : s.sample2.buf = s.buf := rfl
@[simp] theorem State.sample2_len : s.sample2.len = s.len := rfl
@[simp] theorem State.sample2_sum1 : s.sample2.sum1 = s.sum1 := rfl
@[simp] theorem State.sample2_sum2 : s.sample2.sum2 = s.sum2 := rfl
@[simp] theorem State.sample2_sigPrev : s.sample2.sigPrev = s.sigPrev := rfl
@[simp] theorem State.sample2_datPrev : s.sample2.datPrev = s.datPrev := rfl
@[simp] theorem State.sample2_sigCurr : s.sample2.sigCurr = s.levelAs .sigCurr .clock := rfl
@[simp] theorem State.sample2_datCurr : s.sample2.datCurr = s.levelAs .datCurr .data := rfl
@[simp] theorem State.sample2_frameEnd : s.sample2.frameEnd = s.frameEnd := rfl
@[simp] theorem State.sample2_byteIdx : s.sample2.byteIdx = s.byteIdx := rfl
@[simp] theorem State.sample2_bitIdx : s.sample2.bitIdx = s.bitIdx := rfl
@[simp] theorem State.sample2_phase : s.sample2.phase = s.phase := rfl
@[simp] theorem State.sample2_ackv : s.sample2.ackv = s.ackv := rfl
@[simp] theorem State.sample2_dout : s.sample2.dout = s.dout := rfl
@[simp] theorem State.sample2_pads : s.sample2.pads = s.pads := rfl
@[simp] theorem State.sample2_dlyCnt : s.sample2.dlyCnt = s.dlyCnt := rfl
@[simp] theorem State.sample2_st : s.sample2.st = s.st := rfl
@[simp] theorem State.sample2_cmdr : s.sample2.cmdr = s.cmdr := rfl
@[simp] theorem State.sample2_busy : s.sample2.busy = s.busy := rfl
@[simp] theorem State.sample2_bound : s.sample2.bound = s.bound := rfl
@[simp] theorem State.sample2_csok : s.sample2.csok = s.csok := rfl
@[simp] theorem State.sample2_ovf : s.sample2.ovf = s.ovf := rfl
@[simp] theorem State.sample2_short : s.sample2.short = s.short := rfl
@[simp] theorem State.sample2_err : s.sample2.err = s.err := rfl
@[simp] theorem State.sample2_errCode : s.sample2.errCode = s.errCode := rfl
@[simp] theorem State.sample2_loopIdx : s.sample2.loopIdx = s.loopIdx := rfl
@[simp] theorem State.sample2_acc1 : s.sample2.acc1 = s.acc1 := rfl
@[simp] theorem State.sample2_acc2 : s.sample2.acc2 = s.acc2 := rfl
@[simp] theorem State.sample2_draws : s.sample2.draws = s.draws := rfl
@[simp] theorem State.sample2_resets : s.sample2.resets = s.resets := rfl
@[simp] theorem State.sample2_env : s.sample2.env = s.env := rfl

/-! ## saveEdge -/

@[simp] theorem State.saveEdge_cfg : s.saveEdge.cfg = s.cfg := rfl
@[simp] theorem State.saveEdge_buf : s.saveEdge.buf = s.buf := rfl
@[simp] theorem State.saveEdge_len : s.saveEdge.len = s.len := rfl
@[simp] theorem State.saveEdge_sum1 : s.saveEdge.sum1 = s.sum1 := rfl
@[simp] theorem State.saveEdge_sum2 : s.saveEdge.sum2 = s.sum2 := rfl
@[simp] theorem State.saveEdge_sigPrev : s.saveEdge.sigPrev = s.sigCurr := rfl
@[simp] theorem State.saveEdge_datPrev : s.saveEdge.datPrev = s.datCurr := rfl
@[simp] theorem State.saveEdge_sigCurr : s.saveEdge.sigCurr = s.sigCurr := rfl
@[simp] theorem State.saveEdge_datCurr : s.saveEdge.datCurr = s.datCurr := rfl
@[simp] theorem State.saveEdge_frameEnd : s.saveEdge.frameEnd = s.frameEnd := rfl
@[simp] theorem State.saveEdge_byteIdx : s.saveEdge.byteIdx = s.byteIdx := rfl
@[simp] theorem State.saveEdge_bitIdx : s.saveEdge.bitIdx = s.bitIdx := rfl
@[simp] theorem State.saveEdge_phase : s.saveEdge.phase = s.phase := rfl
@[simp] theorem State.saveEdge_ackv : s.saveEdge.ackv = s.ackv := rfl
@[simp] theorem State.saveEdge_dout : s.saveEdge.dout = s.dout := rfl
@[simp] theorem State.saveEdge_pads : s.saveEdge.pads = s.pads := rfl
@[simp] theorem State.saveEdge_dlyCnt : s.saveEdge.dlyCnt = s.dlyCnt := rfl
@[simp] theorem State.saveEdge_st : s.saveEdge.st = s.st := rfl
@[simp] theorem State.saveEdge_cmdr : s.saveEdge.cmdr = s.cmdr := rfl
@[simp] theorem State.saveEdge_busy : s.saveEdge.busy = s.busy := rfl
@[simp] theorem State.saveEdge_bound : s.saveEdge.bound = s.bound := rfl
@[simp] theorem State.saveEdge_csok : s.saveEdge.csok = s.csok := rfl
@[simp] theorem State.saveEdge_ovf : s.saveEdge.ovf = s.ovf := rfl
@[simp] theorem State.saveEdge_short : s.saveEdge.short = s.short := rfl
@[simp] theorem State.saveEdge_err : s.saveEdge.err = s.err := rfl
@[simp] theorem State.saveEdge_errCode : s.saveEdge.errCode = s.errCode := rfl
@[simp] theorem State.saveEdge_loopIdx : s.saveEdge.loopIdx = s.loopIdx := rfl
@[simp] theorem State.saveEdge_acc1 : s.saveEdge.acc1 = s.acc1 := rfl
@[simp] theorem State.saveEdge_acc2 : s.saveEdge.acc2 = s.acc2 := rfl
@[simp] theorem State.saveEdge_draws : s.saveEdge.draws = s.draws := rfl
@[simp] theorem State.saveEdge_resets : s.saveEdge.resets = s.resets := rfl
@[simp] theorem State.saveEdge_env : s.saveEdge.env = s.env := rfl

/-! ## goto -/

@[simp] theorem State.goto_cfg (q : Seq) : (s.goto q).cfg = s.cfg := rfl
@[simp] theorem State.goto_buf (q : Seq) : (s.goto q).buf = s.buf := rfl
@[simp] theorem State.goto_len (q : Seq) : (s.goto q).len = s.len := rfl
@[simp] theorem State.goto_sum1 (q : Seq) : (s.goto q).sum1 = s.sum1 := rfl
@[simp] theorem State.goto_sum2 (q : Seq) : (s.goto q).sum2 = s.sum2 := rfl
@[simp] theorem State.goto_sigPrev (q : Seq) : (s.goto q).sigPrev = s.sigPrev := rfl
@[simp] theorem State.goto_datPrev (q : Seq) : (s.goto q).datPrev = s.datPrev := rfl
@[simp] theorem State.goto_sigCurr (q : Seq) : (s.goto q).sigCurr = s.sigCurr := rfl
@[simp] theorem State.goto_datCurr (q : Seq) : (s.goto q).datCurr = s.datCurr := rfl
@[simp] theorem State.goto_frameEnd (q : Seq) : (s.goto q).frameEnd = s.frameEnd := rfl
@[simp] theorem State.goto_byteIdx (q : Seq) : (s.goto q).byteIdx = s.byteIdx := rfl
@[simp] theorem State.goto_bitIdx (q : Seq) : (s.goto q).bitIdx = s.bitIdx := rfl
@[simp] theorem State.goto_phase (q : Seq) : (s.goto q).phase = s.phase := rfl
@[simp] theorem State.goto_ackv (q : Seq) : (s.goto q).ackv = s.ackv := rfl
@[simp] theorem State.goto_dout (q : Seq) : (s.goto q).dout = s.dout := rfl
@[simp] theorem State.goto_pads (q : Seq) : (s.goto q).pads = s.pads := rfl
@[simp] theorem State.goto_dlyCnt (q : Seq) : (s.goto q).dlyCnt = s.dlyCnt := rfl
@[simp] theorem State.goto_st (q : Seq) : (s.goto q).st = q := rfl
@[simp] theorem State.goto_cmdr (q : Seq) : (s.goto q).cmdr = s.cmdr := rfl
@[simp] theorem State.goto_busy (q : Seq) : (s.goto q).busy = s.busy := rfl
@[simp] theorem State.goto_bound (q : Seq) : (s.goto q).bound = s.bound := rfl
@[simp] theorem State.goto_csok (q : Seq) : (s.goto q).csok = s.csok := rfl
@[simp] theorem State.goto_ovf (q : Seq) : (s.goto q).ovf = s.ovf := rfl
@[simp] theorem State.goto_short (q : Seq) : (s.goto q).short = s.short := rfl
@[simp] theorem State.goto_err (q : Seq) : (s.goto q).err = s.err := rfl
@[simp] theorem State.goto_errCode (q : Seq) : (s.goto q).errCode = s.errCode := rfl
@[simp] theorem State.goto_loopIdx (q : Seq) : (s.goto q).loopIdx = s.loopIdx := rfl
@[simp] theorem State.goto_acc1 (q : Seq) : (s.goto q).acc1 = s.acc1 := rfl
@[simp] theorem State.goto_acc2 (q : Seq) : (s.goto q).acc2 = s.acc2 := rfl
@[simp] theorem State.goto_draws (q : Seq) : (s.goto q).draws = s.draws := rfl
@[simp] theorem State.goto_resets (q : Seq) : (s.goto q).resets = s.resets := rfl
@[simp] theorem State.goto_env (q : Seq) : (s.goto q).env = s.env := rfl

/-! ## done -/

@[simp] theorem State.done_cfg : s.done.cfg = s.cfg := rfl
@[simp] theorem State.done_buf : s.done.buf = s.buf := rfl
@[simp] theorem State.done_len : s.done.len = s.len := rfl
@[simp] theorem State.done_sum1 : s.done.sum1 = s.sum1 := rfl
@[simp] theorem State.done_sum2 : s.done.sum2 = s.sum2 := rfl
@[simp] theorem State.done_sigPrev : s.done.sigPrev = s.sigPrev := rfl
@[simp] theorem State.done_datPrev : s.done.datPrev = s.datPrev := rfl
@[simp] theorem State.done_sigCurr : s.done.sigCurr = s.sigCurr := rfl
@[simp] theorem State.done_datCurr : s.done.datCurr = s.datCurr := rfl
@[simp] theorem State.done_frameEnd : s.done.frameEnd = s.frameEnd := rfl
@[simp] theorem State.done_byteIdx : s.done.byteIdx = s.byteIdx := rfl
@[simp] theorem State.done_bitIdx : s.done.bitIdx = s.bitIdx := rfl
@[simp] theorem State.done_phase : s.done.phase = s.phase := rfl
@[simp] theorem State.done_ackv : s.done.ackv = s.ackv := rfl
@[simp] theorem State.done_dout : s.done.dout = s.dout := rfl
@[simp] theorem State.done_pads : s.done.pads = s.pads := rfl
@[simp] theorem State.done_dlyCnt : s.done.dlyCnt = s.dlyCnt := rfl
@[simp] theorem State.done_st : s.done.st = .idle := rfl
@[simp] theorem State.done_cmdr : s.done.cmdr = s.cmdr := rfl
@[simp] theorem State.done_busy : s.done.busy = false := rfl
@[simp] theorem State.done_bound : s.done.bound = s.bound := rfl
@[simp] theorem State.done_csok : s.done.csok = s.csok := rfl
@[simp] theorem State.done_ovf : s.done.ovf = s.ovf := rfl
@[simp] theorem State.done_short : s.done.short = s.short := rfl
@[simp] theorem State.done_err : s.done.err = s.err := rfl
@[simp] theorem State.done_errCode : s.done.errCode = s.errCode := rfl
@[simp] theorem State.done_loopIdx : s.done.loopIdx = s.loopIdx := rfl
@[simp] theorem State.done_acc1 : s.done.acc1 = s.acc1 := rfl
@[simp] theorem State.done_acc2 : s.done.acc2 = s.acc2 := rfl
@[simp] theorem State.done_draws : s.done.draws = s.draws := rfl
@[simp] theorem State.done_resets : s.done.resets = s.resets := rfl
@[simp] theorem State.done_env : s.done.env = s.env := rfl

/-! ## cmdError -/

@[simp] theorem State.cmdError_cfg (e : CmdErr) : (s.cmdError e).cfg = s.cfg := rfl
@[simp] theorem State.cmdError_buf (e : CmdErr) : (s.cmdError e).buf = s.buf := rfl
@[simp] theorem State.cmdError_len (e : CmdErr) : (s.cmdError e).len = s.len := rfl
@[simp] theorem State.cmdError_sum1 (e : CmdErr) : (s.cmdError e).sum1 = s.sum1 := rfl
@[simp] theorem State.cmdError_sum2 (e : CmdErr) : (s.cmdError e).sum2 = s.sum2 := rfl
@[simp] theorem State.cmdError_sigPrev (e : CmdErr) : (s.cmdError e).sigPrev = s.sigPrev := rfl
@[simp] theorem State.cmdError_datPrev (e : CmdErr) : (s.cmdError e).datPrev = s.datPrev := rfl
@[simp] theorem State.cmdError_sigCurr (e : CmdErr) : (s.cmdError e).sigCurr = s.sigCurr := rfl
@[simp] theorem State.cmdError_datCurr (e : CmdErr) : (s.cmdError e).datCurr = s.datCurr := rfl
@[simp] theorem State.cmdError_frameEnd (e : CmdErr) : (s.cmdError e).frameEnd = s.frameEnd := rfl
@[simp] theorem State.cmdError_byteIdx (e : CmdErr) : (s.cmdError e).byteIdx = s.byteIdx := rfl
@[simp] theorem State.cmdError_bitIdx (e : CmdErr) : (s.cmdError e).bitIdx = s.bitIdx := rfl
@[simp] theorem State.cmdError_phase (e : CmdErr) : (s.cmdError e).phase = s.phase := rfl
@[simp] theorem State.cmdError_ackv (e : CmdErr) : (s.cmdError e).ackv = s.ackv := rfl
@[simp] theorem State.cmdError_dout (e : CmdErr) : (s.cmdError e).dout = s.dout := rfl
@[simp] theorem State.cmdError_pads (e : CmdErr) : (s.cmdError e).pads = s.pads := rfl
@[simp] theorem State.cmdError_dlyCnt (e : CmdErr) : (s.cmdError e).dlyCnt = s.dlyCnt := rfl
@[simp] theorem State.cmdError_st (e : CmdErr) : (s.cmdError e).st = s.st := rfl
@[simp] theorem State.cmdError_cmdr (e : CmdErr) : (s.cmdError e).cmdr = s.cmdr := rfl
@[simp] theorem State.cmdError_busy (e : CmdErr) : (s.cmdError e).busy = s.busy := rfl
@[simp] theorem State.cmdError_bound (e : CmdErr) : (s.cmdError e).bound = s.bound := rfl
@[simp] theorem State.cmdError_csok (e : CmdErr) : (s.cmdError e).csok = s.csok := rfl
@[simp] theorem State.cmdError_ovf (e : CmdErr) : (s.cmdError e).ovf = s.ovf := rfl
@[simp] theorem State.cmdError_short (e : CmdErr) : (s.cmdError e).short = s.short := rfl
@[simp] theorem State.cmdError_err (e : CmdErr) : (s.cmdError e).err = true := rfl
@[simp] theorem State.cmdError_errCode (e : CmdErr) : (s.cmdError e).errCode = (if s.err then s.errCode else e.code) := rfl
@[simp] theorem State.cmdError_loopIdx (e : CmdErr) : (s.cmdError e).loopIdx = s.loopIdx := rfl
@[simp] theorem State.cmdError_acc1 (e : CmdErr) : (s.cmdError e).acc1 = s.acc1 := rfl
@[simp] theorem State.cmdError_acc2 (e : CmdErr) : (s.cmdError e).acc2 = s.acc2 := rfl
@[simp] theorem State.cmdError_draws (e : CmdErr) : (s.cmdError e).draws = s.draws := rfl
@[simp] theorem State.cmdError_resets (e : CmdErr) : (s.cmdError e).resets = s.resets := rfl
@[simp] theorem State.cmdError_env (e : CmdErr) : (s.cmdError e).env = s.env := rfl

/-! ## latch -/

@[simp] theorem State.latch_cfg (i : Instr) : (s.latch i).cfg = s.cfg := rfl
@[simp] theorem State.latch_buf (i : Instr) : (s.latch i).buf = s.buf := rfl
@[simp] theorem State.latch_len (i : Instr) : (s.latch i).len = s.len := rfl
@[simp] theorem State.latch_sum1 (i : Instr) : (s.latch i).sum1 = s.sum1 := rfl
@[simp] theorem State.latch_sum2 (i : Instr) : (s.latch i).sum2 = s.sum2 := rfl
@[simp] theorem State.latch_sigPrev (i : Instr) : (s.latch i).sigPrev = s.sigPrev := rfl
@[simp] theorem State.latch_datPrev (i : Instr) : (s.latch i).datPrev = s.datPrev := rfl
@[simp] theorem State.latch_sigCurr (i : Instr) : (s.latch i).sigCurr = s.sigCurr := rfl
@[simp] theorem State.latch_datCurr (i : Instr) : (s.latch i).datCurr = s.datCurr := rfl
@[simp] theorem State.latch_frameEnd (i : Instr) : (s.latch i).frameEnd = s.frameEnd := rfl
@[simp] theorem State.latch_byteIdx (i : Instr) : (s.latch i).byteIdx = s.byteIdx := rfl
@[simp] theorem State.latch_bitIdx (i : Instr) : (s.latch i).bitIdx = s.bitIdx := rfl
@[simp] theorem State.latch_phase (i : Instr) : (s.latch i).phase = s.phase := rfl
@[simp] theorem State.latch_ackv (i : Instr) : (s.latch i).ackv = s.ackv := rfl
@[simp] theorem State.latch_dout (i : Instr) : (s.latch i).dout = s.dout := rfl
@[simp] theorem State.latch_pads (i : Instr) : (s.latch i).pads = s.pads := rfl
@[simp] theorem State.latch_dlyCnt (i : Instr) : (s.latch i).dlyCnt = s.dlyCnt := rfl
@[simp] theorem State.latch_st (i : Instr) : (s.latch i).st = firstState i := rfl
@[simp] theorem State.latch_cmdr (i : Instr) : (s.latch i).cmdr = encode i := rfl
@[simp] theorem State.latch_busy (i : Instr) : (s.latch i).busy = true := rfl
@[simp] theorem State.latch_bound (i : Instr) : (s.latch i).bound = s.bound := rfl
@[simp] theorem State.latch_csok (i : Instr) : (s.latch i).csok = s.csok := rfl
@[simp] theorem State.latch_ovf (i : Instr) : (s.latch i).ovf = s.ovf := rfl
@[simp] theorem State.latch_short (i : Instr) : (s.latch i).short = s.short := rfl
@[simp] theorem State.latch_err (i : Instr) : (s.latch i).err = s.err := rfl
@[simp] theorem State.latch_errCode (i : Instr) : (s.latch i).errCode = s.errCode := rfl
@[simp] theorem State.latch_loopIdx (i : Instr) : (s.latch i).loopIdx = 0 := rfl
@[simp] theorem State.latch_acc1 (i : Instr) : (s.latch i).acc1 = 0 := rfl
@[simp] theorem State.latch_acc2 (i : Instr) : (s.latch i).acc2 = 0 := rfl
@[simp] theorem State.latch_draws (i : Instr) : (s.latch i).draws = s.draws := rfl
@[simp] theorem State.latch_resets (i : Instr) : (s.latch i).resets = s.resets := rfl
@[simp] theorem State.latch_env (i : Instr) : (s.latch i).env = s.env := rfl

/-! ## advanceBit -/

@[simp] theorem State.advanceBit_cfg : s.advanceBit.cfg = s.cfg := rfl
@[simp] theorem State.advanceBit_buf : s.advanceBit.buf = s.buf := rfl
@[simp] theorem State.advanceBit_len : s.advanceBit.len = s.len := rfl
@[simp] theorem State.advanceBit_sum1 : s.advanceBit.sum1 = s.sum1 := rfl
@[simp] theorem State.advanceBit_sum2 : s.advanceBit.sum2 = s.sum2 := rfl
@[simp] theorem State.advanceBit_sigPrev : s.advanceBit.sigPrev = s.sigPrev := rfl
@[simp] theorem State.advanceBit_datPrev : s.advanceBit.datPrev = s.datPrev := rfl
@[simp] theorem State.advanceBit_sigCurr : s.advanceBit.sigCurr = s.sigCurr := rfl
@[simp] theorem State.advanceBit_datCurr : s.advanceBit.datCurr = s.datCurr := rfl
@[simp] theorem State.advanceBit_frameEnd : s.advanceBit.frameEnd = s.frameEnd := rfl
@[simp] theorem State.advanceBit_byteIdx : s.advanceBit.byteIdx = (if s.bitIdx = 0 then s.byteIdx + 1 else s.byteIdx) := rfl
@[simp] theorem State.advanceBit_bitIdx : s.advanceBit.bitIdx = (if s.bitIdx = 0 then 7 else s.bitIdx - 1) := rfl
@[simp] theorem State.advanceBit_phase : s.advanceBit.phase = s.phase := rfl
@[simp] theorem State.advanceBit_ackv : s.advanceBit.ackv = s.ackv := rfl
@[simp] theorem State.advanceBit_dout : s.advanceBit.dout = s.dout := rfl
@[simp] theorem State.advanceBit_pads : s.advanceBit.pads = s.pads := rfl
@[simp] theorem State.advanceBit_dlyCnt : s.advanceBit.dlyCnt = s.dlyCnt := rfl
@[simp] theorem State.advanceBit_st : s.advanceBit.st = s.st := rfl
@[simp] theorem State.advanceBit_cmdr : s.advanceBit.cmdr = s.cmdr := rfl
@[simp] theorem State.advanceBit_busy : s.advanceBit.busy = s.busy := rfl
@[simp] theorem State.advanceBit_bound : s.advanceBit.bound = s.bound := rfl
@[simp] theorem State.advanceBit_csok : s.advanceBit.csok = s.csok := rfl
@[simp] theorem State.advanceBit_ovf : s.advanceBit.ovf = s.ovf := rfl
@[simp] theorem State.advanceBit_short : s.advanceBit.short = s.short := rfl
@[simp] theorem State.advanceBit_err : s.advanceBit.err = s.err := rfl
@[simp] theorem State.advanceBit_errCode : s.advanceBit.errCode = s.errCode := rfl
@[simp] theorem State.advanceBit_loopIdx : s.advanceBit.loopIdx = s.loopIdx := rfl
@[simp] theorem State.advanceBit_acc1 : s.advanceBit.acc1 = s.acc1 := rfl
@[simp] theorem State.advanceBit_acc2 : s.advanceBit.acc2 = s.acc2 := rfl
@[simp] theorem State.advanceBit_draws : s.advanceBit.draws = s.draws := rfl
@[simp] theorem State.advanceBit_resets : s.advanceBit.resets = s.resets := rfl
@[simp] theorem State.advanceBit_env : s.advanceBit.env = s.env := rfl

/-! ## ackBitDown -/

@[simp] theorem State.ackBitDown_cfg : s.ackBitDown.cfg = s.cfg := rfl
@[simp] theorem State.ackBitDown_buf : s.ackBitDown.buf = s.buf := rfl
@[simp] theorem State.ackBitDown_len : s.ackBitDown.len = s.len := rfl
@[simp] theorem State.ackBitDown_sum1 : s.ackBitDown.sum1 = s.sum1 := rfl
@[simp] theorem State.ackBitDown_sum2 : s.ackBitDown.sum2 = s.sum2 := rfl
@[simp] theorem State.ackBitDown_sigPrev : s.ackBitDown.sigPrev = s.sigPrev := rfl
@[simp] theorem State.ackBitDown_datPrev : s.ackBitDown.datPrev = s.datPrev := rfl
@[simp] theorem State.ackBitDown_sigCurr : s.ackBitDown.sigCurr = s.sigCurr := rfl
@[simp] theorem State.ackBitDown_datCurr : s.ackBitDown.datCurr = s.datCurr := rfl
@[simp] theorem State.ackBitDown_frameEnd : s.ackBitDown.frameEnd = s.frameEnd := rfl
@[simp] theorem State.ackBitDown_byteIdx : s.ackBitDown.byteIdx = s.byteIdx := rfl
@[simp] theorem State.ackBitDown_bitIdx : s.ackBitDown.bitIdx = (if s.bitIdx = 0 then 0 else s.bitIdx - 1) := rfl
@[simp] theorem State.ackBitDown_phase : s.ackBitDown.phase = s.phase := rfl
@[simp] theorem State.ackBitDown_ackv : s.ackBitDown.ackv = s.ackv := rfl
@[simp] theorem State.ackBitDown_dout : s.ackBitDown.dout = s.dout := rfl
@[simp] theorem State.ackBitDown_pads : s.ackBitDown.pads = s.pads := rfl
@[simp] theorem State.ackBitDown_dlyCnt : s.ackBitDown.dlyCnt = s.dlyCnt := rfl
@[simp] theorem State.ackBitDown_st : s.ackBitDown.st = s.st := rfl
@[simp] theorem State.ackBitDown_cmdr : s.ackBitDown.cmdr = s.cmdr := rfl
@[simp] theorem State.ackBitDown_busy : s.ackBitDown.busy = s.busy := rfl
@[simp] theorem State.ackBitDown_bound : s.ackBitDown.bound = s.bound := rfl
@[simp] theorem State.ackBitDown_csok : s.ackBitDown.csok = s.csok := rfl
@[simp] theorem State.ackBitDown_ovf : s.ackBitDown.ovf = s.ovf := rfl
@[simp] theorem State.ackBitDown_short : s.ackBitDown.short = s.short := rfl
@[simp] theorem State.ackBitDown_err : s.ackBitDown.err = s.err := rfl
@[simp] theorem State.ackBitDown_errCode : s.ackBitDown.errCode = s.errCode := rfl
@[simp] theorem State.ackBitDown_loopIdx : s.ackBitDown.loopIdx = s.loopIdx := rfl
@[simp] theorem State.ackBitDown_acc1 : s.ackBitDown.acc1 = s.acc1 := rfl
@[simp] theorem State.ackBitDown_acc2 : s.ackBitDown.acc2 = s.acc2 := rfl
@[simp] theorem State.ackBitDown_draws : s.ackBitDown.draws = s.draws := rfl
@[simp] theorem State.ackBitDown_resets : s.ackBitDown.resets = s.resets := rfl
@[simp] theorem State.ackBitDown_env : s.ackBitDown.env = s.env := rfl

/-! ## clockPhase -/

@[simp] theorem State.clockPhase_cfg : s.clockPhase.cfg = s.cfg := rfl
@[simp] theorem State.clockPhase_buf : s.clockPhase.buf = s.buf := rfl
@[simp] theorem State.clockPhase_len : s.clockPhase.len = s.len := rfl
@[simp] theorem State.clockPhase_sum1 : s.clockPhase.sum1 = s.sum1 := rfl
@[simp] theorem State.clockPhase_sum2 : s.clockPhase.sum2 = s.sum2 := rfl
@[simp] theorem State.clockPhase_sigPrev : s.clockPhase.sigPrev = s.sigPrev := rfl
@[simp] theorem State.clockPhase_datPrev : s.clockPhase.datPrev = s.datPrev := rfl
@[simp] theorem State.clockPhase_sigCurr : s.clockPhase.sigCurr = s.sigCurr := rfl
@[simp] theorem State.clockPhase_datCurr : s.clockPhase.datCurr = s.datCurr := rfl
@[simp] theorem State.clockPhase_frameEnd : s.clockPhase.frameEnd = s.frameEnd := rfl
@[simp] theorem State.clockPhase_byteIdx : s.clockPhase.byteIdx = s.byteIdx := rfl
@[simp] theorem State.clockPhase_bitIdx : s.clockPhase.bitIdx = s.bitIdx := rfl
@[simp] theorem State.clockPhase_phase : s.clockPhase.phase = !s.phase := rfl
@[simp] theorem State.clockPhase_ackv : s.clockPhase.ackv = s.ackv := rfl
@[simp] theorem State.clockPhase_dout : s.clockPhase.dout = s.dout := rfl
@[simp] theorem State.clockPhase_pads : s.clockPhase.pads = { s.pads with clkOut := s.phase } := rfl
@[simp] theorem State.clockPhase_dlyCnt : s.clockPhase.dlyCnt = s.dlyCnt := rfl
@[simp] theorem State.clockPhase_st : s.clockPhase.st = s.st := rfl
@[simp] theorem State.clockPhase_cmdr : s.clockPhase.cmdr = s.cmdr := rfl
@[simp] theorem State.clockPhase_busy : s.clockPhase.busy = s.busy := rfl
@[simp] theorem State.clockPhase_bound : s.clockPhase.bound = s.bound := rfl
@[simp] theorem State.clockPhase_csok : s.clockPhase.csok = s.csok := rfl
@[simp] theorem State.clockPhase_ovf : s.clockPhase.ovf = s.ovf := rfl
@[simp] theorem State.clockPhase_short : s.clockPhase.short = s.short := rfl
@[simp] theorem State.clockPhase_err : s.clockPhase.err = s.err := rfl
@[simp] theorem State.clockPhase_errCode : s.clockPhase.errCode = s.errCode := rfl
@[simp] theorem State.clockPhase_loopIdx : s.clockPhase.loopIdx = s.loopIdx := rfl
@[simp] theorem State.clockPhase_acc1 : s.clockPhase.acc1 = s.acc1 := rfl
@[simp] theorem State.clockPhase_acc2 : s.clockPhase.acc2 = s.acc2 := rfl
@[simp] theorem State.clockPhase_draws : s.clockPhase.draws = s.draws := rfl
@[simp] theorem State.clockPhase_resets : s.clockPhase.resets = s.resets := rfl
@[simp] theorem State.clockPhase_env : s.clockPhase.env = s.env := rfl

/-! ## offerWord -/

@[simp] theorem State.offerWord_cfg (w : CmdWord) : (s.offerWord w).cfg = s.cfg := rfl
@[simp] theorem State.offerWord_buf (w : CmdWord) : (s.offerWord w).buf = s.buf := rfl
@[simp] theorem State.offerWord_len (w : CmdWord) : (s.offerWord w).len = s.len := rfl
@[simp] theorem State.offerWord_sum1 (w : CmdWord) : (s.offerWord w).sum1 = s.sum1 := rfl
@[simp] theorem State.offerWord_sum2 (w : CmdWord) : (s.offerWord w).sum2 = s.sum2 := rfl
@[simp] theorem State.offerWord_sigPrev (w : CmdWord) : (s.offerWord w).sigPrev = s.sigPrev := rfl
@[simp] theorem State.offerWord_datPrev (w : CmdWord) : (s.offerWord w).datPrev = s.datPrev := rfl
@[simp] theorem State.offerWord_sigCurr (w : CmdWord) : (s.offerWord w).sigCurr = s.sigCurr := rfl
@[simp] theorem State.offerWord_datCurr (w : CmdWord) : (s.offerWord w).datCurr = s.datCurr := rfl
@[simp] theorem State.offerWord_frameEnd (w : CmdWord) : (s.offerWord w).frameEnd = s.frameEnd := rfl
@[simp] theorem State.offerWord_byteIdx (w : CmdWord) : (s.offerWord w).byteIdx = s.byteIdx := rfl
@[simp] theorem State.offerWord_bitIdx (w : CmdWord) : (s.offerWord w).bitIdx = s.bitIdx := rfl
@[simp] theorem State.offerWord_phase (w : CmdWord) : (s.offerWord w).phase = s.phase := rfl
@[simp] theorem State.offerWord_ackv (w : CmdWord) : (s.offerWord w).ackv = s.ackv := rfl
@[simp] theorem State.offerWord_dout (w : CmdWord) : (s.offerWord w).dout = s.dout := rfl
@[simp] theorem State.offerWord_pads (w : CmdWord) : (s.offerWord w).pads = s.pads := rfl
@[simp] theorem State.offerWord_dlyCnt (w : CmdWord) : (s.offerWord w).dlyCnt = s.dlyCnt := rfl
@[simp] theorem State.offerWord_st (w : CmdWord) : (s.offerWord w).st = s.st := rfl
@[simp] theorem State.offerWord_cmdr (w : CmdWord) : (s.offerWord w).cmdr = s.cmdr := rfl
@[simp] theorem State.offerWord_busy (w : CmdWord) : (s.offerWord w).busy = s.busy := rfl
@[simp] theorem State.offerWord_bound (w : CmdWord) : (s.offerWord w).bound = s.bound := rfl
@[simp] theorem State.offerWord_csok (w : CmdWord) : (s.offerWord w).csok = s.csok := rfl
@[simp] theorem State.offerWord_ovf (w : CmdWord) : (s.offerWord w).ovf = s.ovf := rfl
@[simp] theorem State.offerWord_short (w : CmdWord) : (s.offerWord w).short = s.short := rfl
@[simp] theorem State.offerWord_err (w : CmdWord) : (s.offerWord w).err = s.err := rfl
@[simp] theorem State.offerWord_errCode (w : CmdWord) : (s.offerWord w).errCode = s.errCode := rfl
@[simp] theorem State.offerWord_loopIdx (w : CmdWord) : (s.offerWord w).loopIdx = s.loopIdx := rfl
@[simp] theorem State.offerWord_acc1 (w : CmdWord) : (s.offerWord w).acc1 = s.acc1 := rfl
@[simp] theorem State.offerWord_acc2 (w : CmdWord) : (s.offerWord w).acc2 = s.acc2 := rfl
@[simp] theorem State.offerWord_draws (w : CmdWord) : (s.offerWord w).draws = s.draws := rfl
@[simp] theorem State.offerWord_resets (w : CmdWord) : (s.offerWord w).resets = s.resets := rfl
@[simp] theorem State.offerWord_env (w : CmdWord) : (s.offerWord w).env = { s.port with rst := false, cmdValid := true, cmd := w } :: s.env.tail := rfl

/-! ## idled -/

@[simp] theorem State.idled_cfg : s.idled.cfg = s.cfg := rfl
@[simp] theorem State.idled_buf : s.idled.buf = s.buf := rfl
@[simp] theorem State.idled_len : s.idled.len = s.len := rfl
@[simp] theorem State.idled_sum1 : s.idled.sum1 = s.sum1 := rfl
@[simp] theorem State.idled_sum2 : s.idled.sum2 = s.sum2 := rfl
@[simp] theorem State.idled_sigPrev : s.idled.sigPrev = s.sigPrev := rfl
@[simp] theorem State.idled_datPrev : s.idled.datPrev = s.datPrev := rfl
@[simp] theorem State.idled_sigCurr : s.idled.sigCurr = s.sigCurr := rfl
@[simp] theorem State.idled_datCurr : s.idled.datCurr = s.datCurr := rfl
@[simp] theorem State.idled_frameEnd : s.idled.frameEnd = s.frameEnd := rfl
@[simp] theorem State.idled_byteIdx : s.idled.byteIdx = s.byteIdx := rfl
@[simp] theorem State.idled_bitIdx : s.idled.bitIdx = s.bitIdx := rfl
@[simp] theorem State.idled_phase : s.idled.phase = s.phase := rfl
@[simp] theorem State.idled_ackv : s.idled.ackv = s.ackv := rfl
@[simp] theorem State.idled_dout : s.idled.dout = s.dout := rfl
@[simp] theorem State.idled_pads : s.idled.pads = s.pads := rfl
@[simp] theorem State.idled_dlyCnt : s.idled.dlyCnt = 0 := rfl
@[simp] theorem State.idled_st : s.idled.st = .idle := rfl
@[simp] theorem State.idled_cmdr : s.idled.cmdr = s.cmdr := rfl
@[simp] theorem State.idled_busy : s.idled.busy = false := rfl
@[simp] theorem State.idled_bound : s.idled.bound = s.bound := rfl
@[simp] theorem State.idled_csok : s.idled.csok = s.csok := rfl
@[simp] theorem State.idled_ovf : s.idled.ovf = s.ovf := rfl
@[simp] theorem State.idled_short : s.idled.short = s.short := rfl
@[simp] theorem State.idled_err : s.idled.err = s.err := rfl
@[simp] theorem State.idled_errCode : s.idled.errCode = s.errCode := rfl
@[simp] theorem State.idled_loopIdx : s.idled.loopIdx = s.loopIdx := rfl
@[simp] theorem State.idled_acc1 : s.idled.acc1 = s.acc1 := rfl
@[simp] theorem State.idled_acc2 : s.idled.acc2 = s.acc2 := rfl
@[simp] theorem State.idled_draws : s.idled.draws = s.draws := rfl
@[simp] theorem State.idled_resets : s.idled.resets = s.resets := rfl
@[simp] theorem State.idled_env : s.idled.env = s.env := rfl

/-! ## endTick -/

@[simp] theorem State.endTick_cfg : s.endTick.cfg = s.cfg := rfl
@[simp] theorem State.endTick_buf : s.endTick.buf = s.buf := rfl
@[simp] theorem State.endTick_len : s.endTick.len = s.len := rfl
@[simp] theorem State.endTick_sum1 : s.endTick.sum1 = s.sum1 := rfl
@[simp] theorem State.endTick_sum2 : s.endTick.sum2 = s.sum2 := rfl
@[simp] theorem State.endTick_sigPrev : s.endTick.sigPrev = s.sigPrev := rfl
@[simp] theorem State.endTick_datPrev : s.endTick.datPrev = s.datPrev := rfl
@[simp] theorem State.endTick_sigCurr : s.endTick.sigCurr = s.sigCurr := rfl
@[simp] theorem State.endTick_datCurr : s.endTick.datCurr = s.datCurr := rfl
@[simp] theorem State.endTick_frameEnd : s.endTick.frameEnd = s.frameEnd := rfl
@[simp] theorem State.endTick_byteIdx : s.endTick.byteIdx = s.byteIdx := rfl
@[simp] theorem State.endTick_bitIdx : s.endTick.bitIdx = s.bitIdx := rfl
@[simp] theorem State.endTick_phase : s.endTick.phase = s.phase := rfl
@[simp] theorem State.endTick_ackv : s.endTick.ackv = s.ackv := rfl
@[simp] theorem State.endTick_dout : s.endTick.dout = s.dout := rfl
@[simp] theorem State.endTick_pads : s.endTick.pads = s.pads := rfl
@[simp] theorem State.endTick_dlyCnt : s.endTick.dlyCnt = s.dlyCnt := rfl
@[simp] theorem State.endTick_st : s.endTick.st = s.st := rfl
@[simp] theorem State.endTick_cmdr : s.endTick.cmdr = s.cmdr := rfl
@[simp] theorem State.endTick_busy : s.endTick.busy = s.busy := rfl
@[simp] theorem State.endTick_bound : s.endTick.bound = s.bound := rfl
@[simp] theorem State.endTick_csok : s.endTick.csok = s.csok := rfl
@[simp] theorem State.endTick_ovf : s.endTick.ovf = s.ovf := rfl
@[simp] theorem State.endTick_short : s.endTick.short = s.short := rfl
@[simp] theorem State.endTick_err : s.endTick.err = s.err := rfl
@[simp] theorem State.endTick_errCode : s.endTick.errCode = s.errCode := rfl
@[simp] theorem State.endTick_loopIdx : s.endTick.loopIdx = s.loopIdx := rfl
@[simp] theorem State.endTick_acc1 : s.endTick.acc1 = s.acc1 := rfl
@[simp] theorem State.endTick_acc2 : s.endTick.acc2 = s.acc2 := rfl
@[simp] theorem State.endTick_draws : s.endTick.draws = s.draws + 1 := rfl
@[simp] theorem State.endTick_resets : s.endTick.resets = s.resets := rfl
@[simp] theorem State.endTick_env : s.endTick.env = s.env.tail := rfl

end Sys2Proof.Machine
end

