-- ==== Sys2Proof/Laws/Memory.lean ====
section
/-! SUPPORT. The frame buffer: reading after writing, the canonical form, single bits. -/

namespace Sys2Proof.Machine

theorem Memory.lookup_store (m : Memory) (i j : Nat) (v : Byte) :
    Memory.lookup (Memory.store m i v) j = if j = i then some v else Memory.lookup m j := by
  induction m with
  | nil => simp [Memory.store, Memory.lookup, eq_comm]
  | cons c m ih =>
    obtain ⟨a, b⟩ := c
    by_cases h1 : i < a
    · simp [Memory.store, h1, Memory.lookup, eq_comm]
    · by_cases h2 : i = a
      · subst h2
        by_cases hj : i = j <;> simp [Memory.store, Memory.lookup, hj, eq_comm (a := j)]
      · by_cases hj : a = j
        · subst hj; simp [Memory.store, h1, h2, Memory.lookup, Ne.symm h2]
        · simp [Memory.store, h1, h2, Memory.lookup, ih, hj]

theorem Memory.rising_mono {lo lo' : Nat} {m : Memory} (h : lo ≤ lo') (hm : Memory.rising lo' m = true) :
    Memory.rising lo m = true := by
  cases m with
  | nil => rfl
  | cons c m =>
    simp only [Memory.rising, Bool.and_eq_true, decide_eq_true_eq] at hm ⊢
    exact ⟨h.trans hm.1, hm.2⟩

theorem Memory.rising_store {lo : Nat} {m : Memory} {i : Nat} (v : Byte) (hi : lo ≤ i)
    (hm : Memory.rising lo m = true) : Memory.rising lo (Memory.store m i v) = true := by
  induction m generalizing lo with
  | nil => simpa [Memory.store, Memory.rising] using hi
  | cons c m ih =>
    obtain ⟨a, b⟩ := c
    simp only [Memory.rising, Bool.and_eq_true, decide_eq_true_eq] at hm
    unfold Memory.store
    split_ifs with h1 h2
    · simpa [Memory.rising, hi, hm.2] using h1
    · subst h2
      simpa [Memory.rising, hi] using hm.2
    · simp only [Memory.rising, Bool.and_eq_true, decide_eq_true_eq]
      exact ⟨hm.1, ih (by omega) hm.2⟩

/-- A store keeps the canonical form. -/
theorem Memory.wf_store {m : Memory} (i : Nat) (v : Byte) (hm : Memory.wf m = true) :
    Memory.wf (Memory.store m i v) = true := Memory.rising_store v (Nat.zero_le i) hm

/-- A store lists no address but the one stored to. -/
theorem Memory.mem_store {m : Memory} {i : Nat} {v : Byte} {c : Host.Cell} (h : c ∈ Memory.store m i v) :
    c = (i, v) ∨ c ∈ m := by
  induction m with
  | nil => simpa [Memory.store] using h
  | cons d m ih =>
    obtain ⟨a, b⟩ := d
    unfold Memory.store at h
    split_ifs at h with h1 h2
    · simpa using h
    · simp only [List.mem_cons] at h ⊢; tauto
    · simp only [List.mem_cons] at h ⊢; tauto

/-- Reading after a store. -/
theorem State.byteAt_putByte (s : State) (i j : Nat) (v : Byte) :
    (s.putByte i v).byteAt j = if j = i then v else s.byteAt j := by
  simp only [State.byteAt, State.unwritten, State.putByte_buf, State.putByte_cfg, State.putByte_resets,
    Memory.lookup_store]
  split_ifs <;> rfl

/-- The bits of a byte after a bit write. -/
theorem bitOf_setBit (b : Byte) (i j : BitVec 3) (v : Level) :
    bitOf (setBit b i v) j = if j = i then v else bitOf b j := by
  have hj : j.toNat < 8 := j.isLt
  have hi : i.toNat < 8 := i.isLt
  by_cases h : j = i
  · subst h
    cases v <;> simp [bitOf, setBit, hj]
  · have hne : j.toNat ≠ i.toNat := fun e => h (BitVec.toNat_inj.mp e)
    cases v <;> simp [bitOf, setBit, h, hj] <;> omega

/-- A read depends only on the list, the device and the reset epoch. -/
theorem State.byteAt_congr {s t : State} (hb : t.buf = s.buf) (hc : t.cfg = s.cfg) (hr : t.resets = s.resets)
    (i : Nat) : t.byteAt i = s.byteAt i := by
  simp [State.byteAt, State.unwritten, hb, hc, hr]

/-- Everything `withIndex` can answer a next state for. -/
theorem withIndex_next {s : State} {i : Nat} {k : Answer} {t : State} :
    withIndex s i k = .next t ↔ i < bufCap s.cfg ∧ k = .next t := by
  unfold withIndex
  split_ifs with h <;> simp [h]

theorem sumMod255_le (x y : Byte) : (sumMod255 x y).toNat ≤ 254 := by
  have h : (x.toNat + y.toNat) % 255 < 255 := Nat.mod_lt _ (by decide)
  simp only [sumMod255, BitVec.toNat_ofNat]
  omega

end Sys2Proof.Machine
end

