-- ==== Sys2Proof/Laws/Ops.lean ====
section
/-! SUPPORT. What the shared operations of the sequencer can do, said once each. -/

namespace Sys2Proof.Machine

/-- Everything a delay does. -/
theorem State.delay_cases (s : State) (n : Nat) (after : State → State) :
    n = 0 ∧ s.delay n after = after s ∨ n ≠ 0 ∧ s.delay n after = { s with dlyCnt := n } := by
  unfold State.delay
  split_ifs with h <;> simp [h]

/-- Everything one tick of a delay does. -/
theorem State.countDown_cases (s : State) (after : State → State) :
    s.dlyCnt = 1 ∧ s.countDown after = after { s with dlyCnt := 0 } ∨
      s.dlyCnt ≠ 1 ∧ s.countDown after = { s with dlyCnt := s.dlyCnt - 1 } := by
  unfold State.countDown
  split_ifs with h <;> simp [h]

/-- Everything acceptance does (R156 (3), (4)). -/
theorem State.accept_cases (s : State) (i : Instr) :
    isLineCommand i = true ∧ s.bound = false ∧ s.accept i = s.cmdError .notBound ∨
      (isLineCommand i = true → s.bound = true) ∧ inRange s.cfg i = false ∧ s.accept i = s.cmdError .range ∨
      (isLineCommand i = true → s.bound = true) ∧ inRange s.cfg i = true ∧ s.accept i = s.latch i := by
  unfold State.accept
  cases isLineCommand i <;> cases s.bound <;> cases inRange s.cfg i <;> simp

/-- The range check is the operand range of WellFormed. -/
theorem inRange_eq_wf (c : Config) (i : Instr) : inRange c i = i.wf c := by cases i <;> rfl

/-- Everything one tick of a command does. -/
theorem commandTick_cases (i : Instr) (after : State → State) (uop : State → Answer) (s : State) :
    s.busy = false ∧ commandTick i after uop s = .next (s.accept i) ∨
      s.busy = true ∧ s.dlyCnt = 0 ∧ commandTick i after uop s = uop s ∨
      s.busy = true ∧ s.dlyCnt ≠ 0 ∧ commandTick i after uop s = .next (s.countDown after) := by
  unfold commandTick
  cases s.busy <;> by_cases h : s.dlyCnt = 0 <;> simp [h]

/-- Everything a tick of an EXEC command can answer a next state for. -/
theorem execTick_next {i : Instr} {uop : State → Answer} {s t : State} (h : execTick i uop s = .next t) :
    s.busy = false ∧ t = s.accept i ∨
      s.busy = true ∧ s.dlyCnt = 0 ∧ s.st = .exec ∧ uop s = .next t ∨
      s.busy = true ∧ s.dlyCnt = 0 ∧ s.st ≠ .exec ∧ t = s ∨
      s.busy = true ∧ s.dlyCnt ≠ 0 ∧ t = s.countDown id := by
  unfold execTick at h
  rcases commandTick_cases i id (inExec uop) s with
    ⟨hb, he⟩ | ⟨hb, hd, he⟩ | ⟨hb, hd, he⟩ <;> rw [he] at h
  · left; exact ⟨hb, by simpa using h.symm⟩
  · by_cases hst : s.st = .exec
    · right; left; simp only [inExec, hst] at h; exact ⟨hb, hd, hst, h⟩
    · right; right; left
      refine ⟨hb, hd, hst, ?_⟩
      unfold inExec at h
      split at h
      · contradiction
      · simpa using h.symm
  · right; right; right; exact ⟨hb, hd, by simpa using h.symm⟩

/-- Everything a step can do (R155, R200). -/
theorem step_cases (s : State) :
    s.work = .reset ∧ step s = .next s.resetTick.endTick ∨
      (∃ i, s.work = .command i ∧ step s = onNext State.endTick (exec i s)) ∨
      (∃ e, s.work = .badWord e ∧ step s = .next (s.cmdError e).endTick) ∨
      s.work = .nothing ∧ step s = .next s.endTick ∨
      s.work = .stray ∧ step s = .fault .strayCommand := by
  unfold step
  cases s.work <;> simp

/-- What a step is about (R155, R159, R200). -/
theorem State.work_cases (s : State) :
    s.port.rst = true ∧ s.work = .reset ∨
      s.port.rst = false ∧ s.busy = true ∧ s.work = running (decode s.cmdr) ∨
      s.port.rst = false ∧ s.busy = false ∧ s.port.cmdValid = true ∧ s.work = offered (decode s.port.cmd) ∨
      s.port.rst = false ∧ s.busy = false ∧ s.port.cmdValid = false ∧ s.work = .nothing := by
  unfold State.work
  cases s.port.rst <;> cases s.busy <;> cases s.port.cmdValid <;> simp

theorem onNext_next {f : State → State} {a : Answer} {t : State} :
    onNext f a = .next t ↔ ∃ u, a = .next u ∧ t = f u := by
  cases a <;> simp [onNext, eq_comm]

end Sys2Proof.Machine
end

