-- ==== Sys2Proof/Laws/Exec.lean ====
section
/-! SUPPORT. What a tick of any command comes to in an idle core, and in a busy core before its next
micro-operation. -/

namespace Sys2Proof.Machine

/-- In an idle core a tick of a command is its acceptance (R155). -/
theorem exec_idle (i : Instr) {s : State} (hb : s.busy = false) : exec i s = .next (s.accept i) := by
  cases i <;>
    simp only [exec, execNop, execBind, execClr, execBlds, execPutb, execBlde, execSetl, execVfy, execGetb,
      execTxf, execTxa, execRxf, execRxa, execTick, commandTick] <;>
    simp [hb]

/-- Without a pending delay a busy core executes the micro-operation (R9, R21). -/
theorem commandTick_uop {i : Instr} {after : State → State} {uop : State → Answer} {s : State}
    (hb : s.busy = true) (hd : s.dlyCnt = 0) : commandTick i after uop s = uop s := by
  simp [commandTick, hb, hd]

/-- The same for a command of state EXEC. -/
theorem execTick_uop {i : Instr} {uop : State → Answer} {s : State} (hb : s.busy = true)
    (hs : s.st = .exec) (hd : s.dlyCnt = 0) : execTick i uop s = uop s := by
  simp [execTick, commandTick, inExec, hb, hs, hd]

/-- A pending delay counts down instead (R21). -/
theorem commandTick_delay {i : Instr} {after : State → State} {uop : State → Answer} {s : State}
    (hb : s.busy = true) (hd : s.dlyCnt ≠ 0) : commandTick i after uop s = .next (s.countDown after) := by
  simp [commandTick, hb, hd]

end Sys2Proof.Machine
end

