-- ==== Sys2Proof/Laws/Network.lean ====
section
/-! SUPPORT. What a host's device sees in a tick, what the host does in it, and one tick of the two
together. -/

namespace Sys2Proof.Machine

variable (s : State) (n : Node) (others : List Pads) (o : Option Instr)

@[simp] theorem State.seeing_busy : (s.seeing others).busy = s.busy := rfl
@[simp] theorem State.seeing_bound : (s.seeing others).bound = s.bound := rfl
@[simp] theorem State.seeing_port : (s.seeing others).port = { s.port with peers := others } := rfl
@[simp] theorem State.offering_port_rst : (s.offering o).port.rst = s.port.rst := by cases o <;> rfl
@[simp] theorem State.offering_port_peers : (s.offering o).port.peers = s.port.peers := by cases o <;> rfl
@[simp] theorem State.offering_busy : (s.offering o).busy = s.busy := by cases o <;> rfl
@[simp] theorem State.offering_bound : (s.offering o).bound = s.bound := by cases o <;> rfl
@[simp] theorem State.offering_env_tail : (s.offering o).env.tail = s.env.tail := by cases o <;> rfl

/-- The port shows a valid word exactly when the host offers a command. -/
@[simp] theorem State.offering_port_cmdValid : (s.offering o).port.cmdValid = o.isSome := by cases o <;> rfl

/-- In a reset tick the host makes no move and its job is cut off. -/
theorem Node.hostMove_reset {n : Node} {d : State} (h : d.port.rst = true) :
    n.hostMove d = (none, n.host.cutOff) := if_pos h

/-- In any other tick it moves. -/
theorem Node.hostMove_run {n : Node} {d : State} (h : d.port.rst = false) :
    n.hostMove d = n.host.tick d.cmdReady (readPort d) := if_neg (by simp [h])

/-- A node's next state is a step of its device and its host's move. -/
theorem Node.tick_next {n n' : Node} (h : n.tick others = .next n') :
    step ((n.dev.seeing others).offering (n.hostMove (n.dev.seeing others)).1) = .next n'.dev ∧
      n'.host = (n.hostMove (n.dev.seeing others)).2 := by
  unfold Node.tick at h
  dsimp only at h
  split at h
  · rename_i u hu
    cases h
    exact ⟨hu, rfl⟩
  · cases h
  · cases h

end Sys2Proof.Machine
end

