-- ==== Sys2Proof/Laws/Word.lean ====
section
/-! SUPPORT. The fields of a command word (spec/30_encoding.md R68). -/

namespace Sys2Proof

/-- A command word as a number. -/
theorem toNat_commandWord (o : BitVec 4) (b : Byte) : (commandWord o b).toNat = o.toNat * 4096 + b.toNat := by
  have hb : b.toNat < 2 ^ 12 := by omega
  simp only [commandWord, BitVec.toNat_append, BitVec.toNat_ofNat, Nat.zero_mod, Nat.zero_shiftLeft,
    Nat.zero_or]
  show o.toNat <<< 12 ||| b.toNat = _
  rw [← Nat.shiftLeft_add_eq_or_of_lt hb, Nat.shiftLeft_eq]

@[simp] theorem opField_commandWord (o : BitVec 4) (b : Byte) : opField (commandWord o b) = o := by
  apply BitVec.eq_of_toNat_eq
  simp only [opField, BitVec.extractLsb'_toNat, toNat_commandWord, Nat.shiftRight_eq_div_pow]
  omega

@[simp] theorem rsvField_commandWord (o : BitVec 4) (b : Byte) : rsvField (commandWord o b) = 0 := by
  apply BitVec.eq_of_toNat_eq
  simp only [rsvField, BitVec.extractLsb'_toNat, toNat_commandWord, Nat.shiftRight_eq_div_pow]
  show _ = 0
  omega

@[simp] theorem immField_commandWord (o : BitVec 4) (b : Byte) : immField (commandWord o b) = b := by
  apply BitVec.eq_of_toNat_eq
  simp only [immField, BitVec.extractLsb'_toNat, toNat_commandWord, Nat.shiftRight_eq_div_pow]
  omega

/-- Format Z accepts the word of its opcode. -/
theorem formatZ_commandWord (o : BitVec 4) (i : Instr) : formatZ (commandWord o 0) i = .ok i := by
  simp [formatZ]

/-- Format I reads the operand back. -/
theorem formatI_commandWord (o : BitVec 4) (b : Byte) (f : Byte → Instr) :
    formatI (commandWord o b) f = .ok (f b) := by simp [formatI]

end Sys2Proof
end

