-- ==== Sys2Proof/Laws/PerInstr.lean ====
section
/-! SUPPORT. One statement per command: its word has a legal opcode and no reserved bit set
(spec/30_encoding.md R68, R70, R71). -/

namespace Sys2Proof.Laws.WordIsLegal

/-- The word of a command has one of the 13 opcodes and reserved bits of zero. -/
def Statement (i : Instr) : Prop := (opField (encode i)).toNat ≤ 0xC ∧ rsvField (encode i) = 0

theorem nop : Statement .nop := by simp [Statement, encode]

theorem bind : Statement .bind := by simp [Statement, encode]

theorem clr : Statement .clr := by simp [Statement, encode]

theorem blds : Statement .blds := by simp [Statement, encode]

theorem putb (b : Byte) : Statement (.putb b) := by simp [Statement, encode]

theorem blde (d : Byte) : Statement (.blde d) := by simp [Statement, encode]

theorem setl (n : Byte) : Statement (.setl n) := by simp [Statement, encode]

theorem vfy : Statement .vfy := by simp [Statement, encode]

theorem getb (i : Byte) : Statement (.getb i) := by simp [Statement, encode]

theorem txf (m : Byte) : Statement (.txf m) := by simp [Statement, encode]

theorem txa (a : Byte) : Statement (.txa a) := by simp [Statement, encode]

theorem rxf : Statement .rxf := by simp [Statement, encode]

theorem rxa : Statement .rxa := by simp [Statement, encode]

end Sys2Proof.Laws.WordIsLegal
end

