-- ==== Sys2Proof/Laws/Runs.lean ====
section
/-! SUPPORT. Runs of one device: `runs` is the host's run of the core, and runs compose. -/

namespace Sys2Proof.Machine

theorem core_run_next {M : Host.Core} {s t : M.State} (n : Nat) (h : M.step s = .next t) :
    M.run (n + 1) s = M.run n t := by simp [Host.Core.run, h]

theorem core_run_fault {M : Host.Core} {s : M.State} {r : M.Fault} (n : Nat) (h : M.step s = .fault r) :
    M.run (n + 1) s = .fault r := by simp [Host.Core.run, h]

theorem core_run_refused {M : Host.Core} {s : M.State} {r : M.Refusal} (n : Nat)
    (h : M.step s = .refused r) : M.run (n + 1) s = .refused r := by simp [Host.Core.run, h]

/-- `runs` is the run of the host's interface. -/
theorem runs_eq_core (n : Nat) (s : State) : runs n s = Host.Core.run Sys2Proof.core n s := by
  induction n generalizing s with
  | zero => rfl
  | succ n ih =>
    unfold runs
    cases h : step s with
    | next t => exact (ih t).trans (core_run_next (M := Sys2Proof.core) n h).symm
    | fault r => exact (core_run_fault (M := Sys2Proof.core) n h).symm
    | refused r => exact (core_run_refused (M := Sys2Proof.core) n h).symm

@[simp] theorem runs_zero (s : State) : runs 0 s = .next s := rfl

/-- One more tick first. -/
theorem runs_succ {s t : State} (n : Nat) (h : step s = .next t) : runs (n + 1) s = runs n t := by
  simp [runs, h]

/-- A run of `m + n` ticks is one of `m` and then one of `n`. -/
theorem runs_add {s t : State} (m n : Nat) (h : runs m s = .next t) : runs (m + n) s = runs n t := by
  induction m generalizing s with
  | zero => simp only [runs_zero, Host.Outcome.next.injEq] at h; rw [Nat.zero_add, h]
  | succ m ih =>
    unfold runs at h
    split at h
    · rename_i u hu
      rw [Nat.add_right_comm, runs_succ _ hu, ih h]
    · contradiction
    · contradiction

end Sys2Proof.Machine
end

