-- ==== Sys2Proof/Machine/Assembler.lean ====
section
/-! DEFINITION. The assembler syntax and the pseudo-instructions (spec/30_encoding.md R73, R74). -/

namespace Sys2Proof.Machine

/-- A number below 256 (R69, R73). -/
def byteOf (n : Nat) : Option Byte := if n < 256 then some (BitVec.ofNat 8 n) else none

/-- A digit's value, either case. -/
def digitValue (c : Char) : Option Nat :=
  if '0' ≤ c ∧ c ≤ '9' then some (c.toNat - '0'.toNat)
  else if 'a' ≤ c ∧ c ≤ 'f' then some (c.toNat - 'a'.toNat + 10)
  else if 'A' ≤ c ∧ c ≤ 'F' then some (c.toNat - 'A'.toNat + 10)
  else none

/-- Digits in a base, after the value so far. -/
def digits (base : Nat) : Nat → List Char → Option Nat
  | acc, [] => some acc
  | acc, c :: cs =>
    match digitValue c with
    | some d => if d < base then digits base (acc * base + d) cs else none
    | none => none

/-- An operand: a character in single quotes, hexadecimal, binary or decimal (R73). DESIGN CHOICE
(log 21): R73 and R76 name no character set. The 8-bit code of a quoted character is its Unicode code
point, and a character of code 256 or more is refused. -/
def operandOf : List Char → Option Byte
  | ['\'', c, '\''] => byteOf c.toNat
  | '0' :: 'x' :: d :: ds => (digits 16 0 (d :: ds)).bind byteOf
  | '0' :: 'b' :: d :: ds => (digits 2 0 (d :: ds)).bind byteOf
  | d :: ds => (digits 10 0 (d :: ds)).bind byteOf
  | [] => none

/-- The command of a mnemonic and the text of its operand; a format Z command takes none (R69, R73). -/
def commandOf (name operand : List Char) : Option Instr :=
  let z (i : Instr) : Option Instr := if operand.isEmpty then some i else none
  let f (c : Byte → Instr) : Option Instr := (operandOf operand).map c
  match String.ofList name with
  | "NOP" => z .nop
  | "BIND" => z .bind
  | "CLR" => z .clr
  | "BLDS" => z .blds
  | "PUTB" => f .putb
  | "BLDE" => f .blde
  | "SETL" => f .setl
  | "VFY" => z .vfy
  | "GETB" => f .getb
  | "TXF" => f .txf
  | "TXA" => f .txa
  | "RXF" => z .rxf
  | "RXA" => z .rxa
  | _ => none

/-- The text of an operand and what follows it; a quoted character may be any character. -/
def splitOperand : List Char → List Char × List Char
  | '\'' :: c :: '\'' :: rest => (['\'', c, '\''], rest)
  | cs => cs.span fun c => c != ' ' && c != ';'

/-- Nothing but spaces and a comment. -/
def onlyComment (cs : List Char) : Bool :=
  match cs.dropWhile (· == ' ') with
  | [] => true
  | ';' :: _ => true
  | _ => false

/-- One source line: `some none` for a line without a command, `none` for a line that is not in the
syntax (R73). -/
def assembleLine (line : List Char) : Option (Option Instr) :=
  if onlyComment line then some none
  else
    let (name, rest) := (line.dropWhile (· == ' ')).span Char.isUpper
    let (operand, rest) := splitOperand (rest.dropWhile (· == ' '))
    if onlyComment rest then (commandOf name operand).map some else none

/-- `BUILD t, d` (R74). -/
def expandBuild (text : List Byte) (d : Byte) : List Instr := .blds :: (text.map .putb ++ [.blde d])

/-- `EXTRACT`, for `n` read from LEN (R74): the commands; DOUT is read after each. -/
def expandExtract (n : Byte) : List Instr := (List.range n.toNat).map fun i => .getb (BitVec.ofNat 8 i)

/-- `VERIFY n` (R74). -/
def expandVerify (n : Byte) : List Instr := [.setl n, .vfy]

/-- `GETADDR`, for `n` read from LEN (R74). -/
def expandGetaddr (n : Byte) : List Instr := [.getb (n + 2)]

/-- `SENDF`, for `n` read from LEN (R74). -/
def expandSendf (n : Byte) : List Instr := [.txf (n + 3)]

end Sys2Proof.Machine
end

