-- ==== Sys2Proof/Tests/Slice0.lean ====
section
/-! SUPPORT. Tests: the checks of WellFormed, words written out from spec/30_encoding.md, one step on
small states with results from the spec's examples, and for each statement with hypotheses a state that
meets them. -/

namespace Sys2Proof.Machine.Tests

/-! ## WellFormed (spec/00_scope.md R5, spec/44_system.md R156 (4)) -/

theorem test_config_default_wf : resetConfig.wf = true := by decide
theorem test_config_bounds_wf :
    Config.wf ⟨252, 65535, 0, 1, 0⟩ = true ∧ Config.wf ⟨0, 1, 255, 1, 0⟩ = true := by decide
theorem test_config_refuses_capacity_253 : Config.wf ⟨253, 50, 9, 1, 0⟩ = false := by decide
theorem test_config_refuses_period_0 : Config.wf ⟨100, 0, 9, 1, 0⟩ = false := by decide
theorem test_config_refuses_period_65536 : Config.wf ⟨100, 65536, 9, 1, 0⟩ = false := by decide
theorem test_config_refuses_no_ticks : Config.wf ⟨100, 50, 9, 0, 0⟩ = false := by decide
theorem test_setl_range :
    Instr.wf resetConfig (.setl 100) = true ∧ Instr.wf resetConfig (.setl 101) = false := by decide
theorem test_getb_range :
    Instr.wf resetConfig (.getb 102) = true ∧ Instr.wf resetConfig (.getb 103) = false := by decide
theorem test_txf_range :
    Instr.wf resetConfig (.txf 103) = true ∧ Instr.wf resetConfig (.txf 104) = false := by decide

/-! ## Words (R70, R71, R73, R182), bit by bit: op, rsv, imm8 -/

theorem test_word_nop : decode 0b0000_0000_00000000#16 = .ok .nop := by decide
theorem test_word_bind : decode 0b0001_0000_00000000#16 = .ok .bind := by decide
theorem test_word_clr : decode 0b0010_0000_00000000#16 = .ok .clr := by decide
theorem test_word_blds : decode 0b0011_0000_00000000#16 = .ok .blds := by decide
theorem test_word_putb : decode 0b0100_0000_01010000#16 = .ok (.putb 0x50) := by decide
theorem test_word_blde : decode 0b0101_0000_00001001#16 = .ok (.blde 9) := by decide
theorem test_word_setl : decode 0b0110_0000_01100100#16 = .ok (.setl 100) := by decide
theorem test_word_vfy : decode 0b0111_0000_00000000#16 = .ok .vfy := by decide
theorem test_word_getb : decode 0b1000_0000_00000110#16 = .ok (.getb 6) := by decide
theorem test_word_txf : decode 0b1001_0000_00000111#16 = .ok (.txf 7) := by decide
theorem test_word_txa : decode 0b1010_0000_01101101#16 = .ok (.txa 0x6D) := by decide
theorem test_word_rxf : decode 0b1011_0000_00000000#16 = .ok .rxf := by decide
theorem test_word_rxa : decode 0b1100_0000_00000000#16 = .ok .rxa := by decide
theorem test_word_illegal_opcode_wins : decode 0xF123 = .error .illegalOpcode := by decide
theorem test_word_reserved_field : decode 0x9180 = .error .reservedField := by decide
theorem test_word_operand_of_format_z : decode 0x2001 = .error .reservedField := by decide
theorem test_table_word : decodeTableWord 16 0xA06D = some (.txa 0x6D) := by decide

/-- R73's example lines. -/
theorem test_assembler :
    assembleLine "PUTB 'P' ; a comment".toList = some (some (.putb 0x50)) ∧
      assembleLine "TXF 7".toList = some (some (.txf 7)) ∧
      assembleLine "BLDE 0x09".toList = some (some (.blde 9)) ∧
      assembleLine "RXF 1".toList = none := by decide

/-! ## Small states -/

/-- PAYLOAD_CAP 1, so BUF_CAP 4; T_US 1, so a hold of one tick and no settle delay. -/
def tiny : Config := ⟨1, 1, 9, 1, 0⟩

/-- T_US 6: a hold of six ticks and a settle delay of two. -/
def slow : Config := ⟨1, 6, 9, 1, 0⟩

/-- A core whose sequencer stands in state `q`. -/
def inState (q : Seq) : State := { State.reset with cfg := tiny, busy := true, bound := true, st := q }

/-- What the ports show while a host offers `i` in one tick and nothing in the next `n`. -/
def commandPort (i : Instr) (n : Nat) : List PortIn :=
  { PortIn.quiet with cmdValid := true, cmd := encode i } :: List.replicate n PortIn.quiet

/-- A bound idle core with `i` on the port and `n` quiet ticks after it. -/
def offered (i : Instr) (n : Nat) : State :=
  { State.reset with cfg := tiny, bound := true, env := commandPort i n }

/-- The state of an answer, if it is a next state. -/
def after : Answer → State
  | .next t => t
  | _ => State.reset

/-- The other devices' pads: one peer that drives both lines. -/
def bus (clk dat : Level) : List PortIn := [{ PortIn.quiet with peers := [⟨clk, dat, true, true⟩] }]

/-- The buffer of R86's example: the frame of "PING" to address 9. -/
def pingBuf : Memory := [(0, 0x50), (1, 0x49), (2, 0x4E), (3, 0x47), (4, 0x2F), (5, 0x01), (6, 0x09)]

/-! ## One tick -/

/-- R94: the checksum of "PING". -/
theorem test_csum_ping : csum [0x50, 0x49, 0x4E, 0x47] = (0x2F, 0x01) := by decide

/-- R94: a sum of exactly 302 gives 47, one of 256 gives 1. -/
theorem test_sum_folds : sumMod255 231 71 = 47 ∧ sumMod255 47 209 = 1 ∧ sumMod255 254 1 = 0 := by decide

theorem test_nop_done : (after (exec .nop (inState .exec))).busy = false := by decide
theorem test_bind_sets_bound :
    (after (exec .bind { inState .exec with bound := false })).bound = true := by decide

/-- R85: `PUTB 0x50` after `BLDS` gives BUF[0] = 0x50, (80, 80), LEN = 1. -/
theorem test_putb_first :
    let t := after (exec (.putb 0x50) (inState .exec))
    t.byteAt 0 = 0x50 ∧ t.sum1 = 80 ∧ t.sum2 = 80 ∧ t.len = 1 := by decide

/-- R85: without room the byte is dropped. -/
theorem test_putb_full : (after (exec (.putb 0x50) { inState .exec with len := 1 })).len = 1 := by decide

/-- R86: BLDE after the four bytes of "PING" gives 50 49 4E 47 2F 01 09. -/
theorem test_blde_ping :
    (after (exec (.blde 9) { inState .exec with
      cfg := resetConfig
      buf := pingBuf.take 4
      len := 4
      sum1 := 0x2F
      sum2 := 0x01 })).buf = pingBuf := by decide

theorem test_clr_last_byte :
    let t := after (exec .clr { inState .exec with loopIdx := 3, buf := [(3, 7)] })
    t.byteAt 3 = 0 ∧ t.busy = false := by decide
theorem test_blds_first_tick :
    let t := after (exec .blds { inState .exec with len := 1, sum1 := 2 })
    t.len = 0 ∧ t.sum1 = 0 ∧ t.loopIdx = 1 ∧ t.busy = true := by decide
theorem test_setl_sets_len : (after (exec (.setl 1) (inState .exec))).len = 1 := by decide

/-- R88: `SETL 101` with PAYLOAD_CAP 100 is refused with code 4. -/
theorem test_setl_refused :
    let t := after (exec (.setl 101) State.reset)
    t.err = true ∧ t.errCode = 4 ∧ t.len = 0 ∧ t.busy = false := by decide

/-- R89: CSOK on the frame of "PING", at the last tick. -/
theorem test_vfy_ping :
    (after (exec .vfy { inState .exec with
      cfg := resetConfig, buf := pingBuf, len := 4, loopIdx := 4, acc1 := 0x2F, acc2 := 1 })).csok = true := by
  decide

/-- R89: with 0x2E in place of 0x2F, CSOK = 0. -/
theorem test_vfy_mismatch :
    (after (exec .vfy { inState .exec with
      cfg := resetConfig
      buf := Memory.store pingBuf 4 0x2E
      len := 4
      loopIdx := 4
      acc1 := 0x2F
      acc2 := 1
      csok := true })).csok = false := by decide

/-- R90: `GETB 6` of R86's frame gives 0x09. -/
theorem test_getb_address :
    (after (exec (.getb 6) { inState .exec with cfg := resetConfig, buf := pingBuf })).dout = 9 := by decide

/-- R101: the first micro-operation drives both lines HIGH and holds. -/
theorem test_txf_drive :
    let t := after (exec (.txf 1) (inState .tfDrive))
    t.pads = ⟨true, true, true, true⟩ ∧ t.dlyCnt = 1 := by decide

/-- R103: the first bit is written with CLOCK LOW, the eighth advances the byte. -/
theorem test_txf_bit_clock :
    let t := after (exec (.txf 1) { inState .tfBitClock with bitIdx := 0, phase := true })
    t.pads.clkOut = true ∧ t.phase = false ∧ t.bitIdx = 7 ∧ t.byteIdx = 1 := by decide

/-- R142: bit 7 of 0x6D is 0, bit 6 is 1. -/
theorem test_txa_bits :
    (after (exec (.txa 0x6D) { inState .taBitData with bitIdx := 7 })).pads.datOut = false ∧
      (after (exec (.txa 0x6D) { inState .taBitData with bitIdx := 6 })).pads.datOut = true := by decide
theorem test_txa_unbound_refused :
    (after (exec (.txa 0x6D) State.reset)).errCode = 3 := by decide

/-- R128: CLOCK HIGH before and after, DATA from HIGH to LOW ends the frame, here as a runt. -/
theorem test_rxf_stop :
    let t := after (exec .rxf { inState .rfSample with
      pads := ⟨true, true, false, false⟩, sigPrev := true, datPrev := true, env := bus true false })
    t.frameEnd = true ∧ t.short = true ∧ t.busy = false := by decide

/-- R129: a CLOCK change stores the sampled DATA level, most significant bit first. -/
theorem test_rxf_store :
    let t := after (exec .rxf { inState .rfSample with
      pads := ⟨true, true, false, false⟩
      sigPrev := true
      datPrev := true
      bitIdx := 7
      buf := [(0, 0)]
      env := bus false true })
    t.byteAt 0 = 0x80 ∧ t.bitIdx = 6 ∧ t.st = .rfEdgeWait := by decide

/-- R147: the eighth toggle completes the byte. -/
theorem test_rxa_last_bit :
    let t := after (exec .rxa { inState .raAwaitClock with
      pads := ⟨true, true, false, false⟩, sigPrev := false, ackv := 0x6C, env := bus true true })
    t.ackv = 0x6D ∧ t.busy = false := by decide
theorem test_rxa_no_toggle :
    (after (exec .rxa { inState .raAwaitClock with
      pads := ⟨true, true, false, false⟩, sigPrev := true, env := bus true false })).busy = true := by decide

/-- R158: after reset STATUS = 0x00. -/
theorem test_status_after_reset : readPort State.reset 0x0 = 0x00 := by decide

/-- R201, R26: after reset LINES reads 0x03 in its low bits. -/
theorem test_lines_after_reset : (readPort State.reset 0xC).extractLsb' 0 4 = 0x3#4 := by decide

/-- A line command is the first instruction after reset: refused, not bound (R181). -/
theorem test_fetch_first_command :
    (after (step (State.reset.withFetchWord 16 0x4050))).cmdr = 0x4050 ∧
      (after (step (State.reset.withFetchWord 16 0xB000))).errCode = 3 := by decide

/-! ## The hypotheses of each statement are met

One theorem per statement with hypotheses, named after it; one conjunct per clause, at a boundary value
where a clause has a range. -/

/-- No tick of `offered` shows a reset. -/
theorem noReset_offered (i : Instr) (n k : Nat) : (offered i n).noReset k := by
  intro j _
  cases j with
  | zero => rfl
  | succ j =>
    by_cases h : j < n <;> simp [offered, commandPort, List.getD, PortIn.quiet, h]

/-- `offered` waits and shows the word of its command. -/
theorem waiting_offered (i : Instr) (n : Nat) : (offered i n).waiting := ⟨rfl, rfl, rfl⟩

/-- A core in state `q` with no delay stands before the micro-operation of `q`. -/
theorem atUop_inState (q : Seq) : (inState q).atUop q := ⟨rfl, rfl, rfl⟩

theorem meets_DecodeInvertsEncode : decode 0xA0FF = .ok (.txa 0xFF) := by decide

theorem meets_BadWordsRaiseCommandError :
    (opField 0xD000 = 0xD ∧ 0xD ≤ (opField 0xD000).toNat) ∧
    ((opField 0xC100).toNat = 0xC ∧ rsvField 0xC100 ≠ 0) ∧
    (opField 0xC001 ∈ [0x0#4, 0x1#4, 0x2#4, 0x3#4, 0x7#4, 0xB#4, 0xC#4] ∧ immField 0xC001 ≠ 0) ∧
    ((opField 0xA0FF).toNat ≤ 0xC ∧ rsvField 0xA0FF = 0 ∧
      (opField 0xA0FF ∈ [0x0#4, 0x1#4, 0x2#4, 0x3#4, 0x7#4, 0xB#4, 0xC#4] → immField 0xA0FF = 0)) ∧
    (decode 0xD000 = .error .illegalOpcode ∧ (State.reset.offerWord 0xD000).busy = false ∧
      (State.reset.offerWord 0xD000).port.rst = false ∧
      (State.reset.offerWord 0xD000).port.cmdValid = true ∧
      (State.reset.offerWord 0xD000).port.cmd = 0xD000) := by decide

theorem meets_StepRunsDecodedCommand :
    ((offered .nop 1).port.rst = false ∧ (offered .nop 1).busy = false ∧ (offered .nop 1).offers .nop) ∧
    ((inState .exec).port.rst = false ∧ (inState .exec).busy = true ∧
      decode (inState .exec).cmdr = .ok .nop) ∧
    (State.reset.port.rst = false ∧ State.reset.busy = false ∧ State.reset.port.cmdValid = false) :=
  ⟨⟨rfl, rfl, rfl, rfl⟩, ⟨rfl, rfl, rfl⟩, rfl, rfl, rfl⟩

theorem meets_FetchedWordRuns : decodeTableWord 16 0x40FF = some (.putb 0xFF) := by decide

theorem meets_ResetForgetsBuffer :
    ({ inState .exec with env := [{ PortIn.quiet with rst := true }] }).port.rst = true := rfl

theorem meets_ResetWritesResetValues :
    ({ inState .tfBitData with env := [{ PortIn.quiet with rst := true, cmdValid := true }] }).port.rst = true :=
  rfl

theorem meets_BusyCoreIgnoresCommandPort : (inState .exec).busy = true := rfl

theorem meets_AcceptanceChecksInOrder :
    (∀ w : CmdWord, (State.reset.offerWord w).busy = false ∧ (State.reset.offerWord w).port.rst = false ∧
      (State.reset.offerWord w).port.cmdValid = true ∧ (State.reset.offerWord w).port.cmd = w) ∧
    decode 0xFFFF = .error .illegalOpcode ∧
    (decode 0x90FF = .ok (.txf 0xFF) ∧ isLineCommand (.txf 0xFF) = true ∧ State.reset.bound = false) ∧
    (decode 0x6065 = .ok (.setl 101) ∧ isLineCommand (.setl 101) = false ∧
      Instr.wf State.reset.cfg (.setl 101) = false) ∧
    (decode 0x6064 = .ok (.setl 100) ∧ isLineCommand (.setl 100) = false ∧
      Instr.wf State.reset.cfg (.setl 100) = true) :=
  ⟨fun _ => ⟨rfl, rfl, rfl, rfl⟩, by decide⟩

theorem meets_ErrorIsStickyAndHarmless :
    ∃ t, ({ State.reset with err := true, errCode := 2 }).port.rst = false ∧
      step { State.reset with err := true, errCode := 2 } = .next t := ⟨_, rfl, rfl⟩

theorem meets_ConfigurationAndRunningWordStay :
    ∃ t, (inState .exec).port.rst = false ∧ (inState .exec).busy = true ∧
      step (inState .exec) = .next t := ⟨_, rfl, rfl, rfl⟩

theorem meets_DelayStallsSequencer :
    ((inState .taDrive).busy = true ∧ 2 ≤ ({ inState .taDrive with dlyCnt := 2 }).dlyCnt) ∧
    ({ inState .taDrive with dlyCnt := 1 }).dlyCnt = 1 := by decide

theorem meets_OneTickCommandsTakeOneTick :
    (offered (.setl 1) 1).waiting ∧ (offered (.setl 1) 1).cfg.wf = true ∧
    (offered (.setl 1) 1).len.toNat ≤ (offered (.setl 1) 1).cfg.payloadCap ∧
    (offered (.setl 1) 1).noReset 2 ∧ (offered (.setl 1) 1).offers (.setl 1) ∧
    Instr.wf (offered (.setl 1) 1).cfg (.setl 1) = true ∧
    (∃ b, Instr.setl 1 = .nop ∨ Instr.setl 1 = .bind ∨ Instr.setl 1 = .putb b ∨ Instr.setl 1 = .blde b ∨
      Instr.setl 1 = .setl b ∨ Instr.setl 1 = .getb b) :=
  ⟨waiting_offered .., by decide, by decide, noReset_offered _ _ _, ⟨rfl, by decide⟩, by decide, 1,
    by decide⟩

theorem meets_NopChangesNothing : (inState .exec).atUop .exec ∧ State.reset.busy = false :=
  ⟨atUop_inState _, rfl⟩

theorem meets_BindSetsBoundForGood :
    ((inState .exec).atUop .exec ∧ (inState .exec).bound = true) ∧
    (∃ t, (inState .exec).port.rst = false ∧ step (inState .exec) = .next t) ∧
    (State.reset.busy = false ∧ State.reset.bound = false) :=
  ⟨⟨atUop_inState _, rfl⟩, ⟨_, rfl, rfl⟩, rfl, rfl⟩

/-- The first byte and the last. -/
theorem meets_ClearingTickClearsOneByte :
    (inState .exec).atUop .exec ∧ (inState .exec).loopIdx = 0 ∧ 0 + 1 < bufCap tiny ∧
    ({ inState .exec with loopIdx := 3 }).atUop .exec ∧ 3 < bufCap tiny ∧ 3 + 1 = bufCap tiny :=
  ⟨atUop_inState _, rfl, by decide, ⟨rfl, rfl, rfl⟩, by decide, by decide⟩

theorem meets_ClrClearsWholeBuffer :
    (offered .clr 4).waiting ∧ (offered .clr 4).noReset (1 + bufCap (offered .clr 4).cfg) ∧
    (offered .clr 4).offers .clr := ⟨waiting_offered .., noReset_offered _ _ _, rfl, rfl⟩

theorem meets_BldsStartsEmptyFrame :
    (offered .blds 4).waiting ∧ (offered .blds 4).noReset (1 + bufCap (offered .blds 4).cfg) ∧
    (offered .blds 4).offers .blds := ⟨waiting_offered .., noReset_offered _ _ _, rfl, rfl⟩

/-- Room for one byte, and no room. -/
theorem meets_PutbAppendsByte :
    ((inState .exec).cfg.wf = true ∧ (inState .exec).atUop .exec ∧
      (inState .exec).len.toNat + 1 = (inState .exec).cfg.payloadCap) ∧
    (({ inState .exec with len := 1 }).atUop .exec ∧ tiny.payloadCap ≤ (1#8).toNat) :=
  ⟨⟨by decide, atUop_inState _, by decide⟩, ⟨rfl, rfl, rfl⟩, by decide⟩

theorem meets_BldeWritesTrailer :
    ({ inState .exec with len := 1 }).len.toNat = tiny.payloadCap ∧
    ({ inState .exec with len := 1 }).atUop .exec := ⟨by decide, rfl, rfl, rfl⟩

theorem offersThenWaits_commandPort (i : Instr) (n m : Nat) (hd : decode (encode i) = .ok i)
    (h : n ≤ m) : offersThenWaits i n (commandPort i m) := by
  refine ⟨rfl, rfl, hd, by simpa using h, ?_⟩
  intro q hq
  rw [List.eq_of_mem_replicate hq]
  exact ⟨rfl, rfl⟩

/-- A text of two bytes, one more than the capacity, and a host that lets two ticks pass once. -/
theorem meets_BuildFrameBuildsFrame :
    ∃ (s : State) (puts : List (List PortIn)), s.cfg.wf = true ∧ s.waiting ∧
      offersThenWaits .blds (bufCap s.cfg) (commandPort .blds (bufCap s.cfg)) ∧
      List.Forall₂ (fun b ps => offersThenWaits (.putb b) 1 ps) [0x50#8, 0x51#8] puts ∧
      offersThenWaits (.blde 9) 1 (commandPort (.blde 9) 1) ∧
      s.env = commandPort .blds (bufCap s.cfg) ++ (puts.flatten ++ (commandPort (.blde 9) 1 ++ [])) :=
  ⟨{ State.reset with
      cfg := tiny
      env := commandPort .blds (bufCap tiny) ++
        ([commandPort (.putb 0x50) 3, commandPort (.putb 0x51) 1].flatten ++
          (commandPort (.blde 9) 1 ++ [])) },
    [commandPort (.putb 0x50) 3, commandPort (.putb 0x51) 1], by decide, ⟨rfl, rfl, rfl⟩,
    offersThenWaits_commandPort _ _ _ (by decide) (by decide),
    .cons (offersThenWaits_commandPort _ _ _ (by decide) (by decide))
      (.cons (offersThenWaits_commandPort _ _ _ (by decide) (by decide)) .nil),
    offersThenWaits_commandPort _ _ _ (by decide) (by decide), rfl⟩

theorem meets_SetlWritesLength :
    (inState .exec).atUop .exec ∧ State.reset.busy = false ∧ State.reset.cfg.payloadCap + 1 = (101#8).toNat :=
  ⟨atUop_inState _, rfl, rfl⟩

theorem meets_VfyTickStepsOrCompares :
    (({ inState .exec with len := 1 }).atUop .exec ∧ (1#8).toNat ≤ tiny.payloadCap ∧ 0 < (1#8).toNat) ∧
    (({ inState .exec with len := 1, loopIdx := 1 }).atUop .exec ∧ 1 = (1#8).toNat) :=
  ⟨⟨⟨rfl, rfl, rfl⟩, by decide, by decide⟩, ⟨rfl, rfl, rfl⟩, rfl⟩

theorem meets_VfyRecomputesChecksum :
    ({ offered .vfy 3 with len := 1 }).waiting ∧ (1#8).toNat ≤ tiny.payloadCap ∧
    ({ offered .vfy 3 with len := 1 }).noReset ((1#8).toNat + 2) ∧
    ({ offered .vfy 3 with len := 1 }).offers .vfy :=
  ⟨⟨rfl, rfl, rfl⟩, by decide, noReset_offered .vfy 3 _, rfl, rfl⟩

theorem meets_GetbReadsByte :
    ((inState .exec).atUop .exec ∧ (3#8).toNat + 1 = bufCap (inState .exec).cfg) ∧
    State.reset.busy = false ∧ bufCap State.reset.cfg = (103#8).toNat :=
  ⟨⟨atUop_inState _, rfl⟩, rfl, rfl⟩

theorem meets_CodecTouchesNoLine :
    ∃ b, Instr.vfy = .clr ∨ Instr.vfy = .blds ∨ Instr.vfy = .putb b ∨ Instr.vfy = .blde b ∨
      Instr.vfy = .setl b ∨ Instr.vfy = .vfy ∨ Instr.vfy = .getb b := ⟨0, by decide⟩

theorem meets_ChecksumDetectsAllButZeroFf :
    (0x00#8 ≠ 0x01#8 ∧ ¬ (0x00#8 = 0x00#8 ∧ 0x01#8 = 0xFF#8) ∧ ¬ (0x00#8 = 0xFF#8 ∧ 0x01#8 = 0x00#8)) ∧
    List.Perm [1#8, 2#8] [2#8, 1#8] ∧ (∀ b ∈ [0x00#8, 0xFF#8], b = 0x00 ∨ b = 0xFF) := by decide

theorem meets_NonStoringCommandsKeepBuffer :
    (∃ b, Instr.rxa = .nop ∨ Instr.rxa = .bind ∨ Instr.rxa = .setl b ∨ Instr.rxa = .vfy ∨
      Instr.rxa = .getb b ∨ Instr.rxa = .txf b ∨ Instr.rxa = .txa b ∨ Instr.rxa = .rxa) ∧
    ∃ t, exec .rxa (inState .raRelease) = .next t := ⟨⟨0, by decide⟩, _, rfl⟩

theorem meets_TxfMicroOperations :
    tiny.wf = true ∧ (∀ q, (inState q).cfg = tiny ∧ (inState q).atUop q) ∧
    (inState .tfBitData).byteIdx.toNat < bufCap tiny :=
  ⟨by decide, fun q => ⟨rfl, atUop_inState q⟩, by decide⟩

theorem meets_TxfMovesOnAfterHold (q : Seq) :
    ({ inState q with dlyCnt := 1 }).busy = true ∧ ({ inState q with dlyCnt := 1 }).dlyCnt = 1 ∧
    ({ inState q with dlyCnt := 1 }).st = q := ⟨rfl, rfl, rfl⟩

/-- The whole buffer of four bytes. -/
theorem meets_TxfCompletesOnTime (n : Nat) :
    (offered (.txf 4) 200).cfg.wf = true ∧ (offered (.txf 4) 200).waiting ∧
    (offered (.txf 4) 200).bound = true ∧ (4#8).toNat = bufCap (offered (.txf 4) 200).cfg ∧
    (offered (.txf 4) 200).offers (.txf 4) ∧ (offered (.txf 4) 200).noReset n :=
  ⟨by decide, waiting_offered .., rfl, by decide, ⟨rfl, by decide⟩, noReset_offered _ _ _⟩

/-- The last of its 32 bits. -/
theorem meets_TxfBitCellsOnTheWire (n : Nat) :
    (offered (.txf 4) 200).cfg.wf = true ∧ (offered (.txf 4) 200).waiting ∧
    (offered (.txf 4) 200).bound = true ∧ (4#8).toNat ≤ bufCap (offered (.txf 4) 200).cfg ∧
    (offered (.txf 4) 200).offers (.txf 4) ∧ 31 + 1 = 8 * (4#8).toNat ∧ (offered (.txf 4) 200).noReset n :=
  ⟨by decide, waiting_offered .., rfl, by decide, ⟨rfl, by decide⟩, by decide, noReset_offered _ _ _⟩

/-- No byte at all, and the last tick of each level. -/
theorem meets_TxfStartAndStopOnTheWire (n : Nat) :
    (offered (.txf 0) 20).cfg.wf = true ∧ (offered (.txf 0) 20).waiting ∧
    (offered (.txf 0) 20).bound = true ∧ (0#8).toNat ≤ bufCap (offered (.txf 0) 20).cfg ∧
    (offered (.txf 0) 20).offers (.txf 0) ∧ 1 = holdTicks (offered (.txf 0) 20).cfg ∧
    (offered (.txf 0) 20).noReset n :=
  ⟨by decide, waiting_offered .., rfl, by decide, ⟨rfl, by decide⟩, by decide, noReset_offered _ _ _⟩

theorem meets_RxfReleasesAndSeeds :
    (inState .rfRelease).atUop .rfRelease ∧ (inState .rfSeed).atUop .rfSeed :=
  ⟨atUop_inState _, atUop_inState _⟩

/-- Levels as saved, and one that differs; the settle delay at its last tick. -/
theorem meets_RxfWaitsForLevelDifference :
    (∀ q, (inState q).atUop q) ∧
    (let s := { inState .rfEdgeWait with
        pads := Pads.reset, sigPrev := true, datPrev := true, env := bus true true };
      s.atUop .rfEdgeWait ∧ s.levelAs .sigCurr .clock = s.sigPrev ∧ s.levelAs .datCurr .data = s.datPrev) ∧
    (let s := { inState .rfEdgeWait with
        pads := Pads.reset, sigPrev := true, datPrev := true, env := bus false true };
      s.atUop .rfEdgeWait ∧ s.levelAs .sigCurr .clock ≠ s.sigPrev) ∧
    (let s := { inState .rfSettle with dlyCnt := 1 };
      s.busy = true ∧ s.st = .rfSettle ∧ s.dlyCnt = 1) :=
  ⟨atUop_inState, ⟨⟨rfl, rfl, rfl⟩, rfl, rfl⟩, ⟨⟨rfl, rfl, rfl⟩, by decide⟩, rfl, rfl, rfl⟩

/-- A runt of two bytes, and the shortest frame. -/
theorem meets_RxfStopConditionEndsFrame :
    let s := { inState .rfSample with
      pads := Pads.reset, sigPrev := true, datPrev := true, env := bus true false }
    (s.atUop .rfSample ∧ s.levelAs .datCurr .data = false ∧ s.datPrev = true ∧ s.sigPrev = true ∧
      s.levelAs .sigCurr .clock = true) ∧
    ({ s with byteIdx := 2 }).byteIdx.toNat < 3 ∧ 3 ≤ ({ s with byteIdx := 3 }).byteIdx.toNat :=
  ⟨⟨⟨rfl, rfl, rfl⟩, rfl, rfl, rfl, rfl⟩, by decide, by decide⟩

/-- Inside a byte, and the last bit of the last byte. -/
theorem meets_RxfStoresOneBit :
    (let s := { inState .rfSample with
        pads := Pads.reset, sigPrev := true, datPrev := true, bitIdx := 1, env := bus false false };
      s.cfg.wf = true ∧ s.atUop .rfSample ∧ s.byteIdx.toNat < bufCap s.cfg ∧ s.bitIdx ≠ 0 ∧
      ¬ (s.levelAs .datCurr .data = false ∧ s.datPrev = true ∧ s.sigPrev = true ∧
        s.levelAs .sigCurr .clock = true)) ∧
    (let s := { inState .rfSample with
        pads := Pads.reset, sigPrev := true, datPrev := true, byteIdx := 3, env := bus false false };
      s.cfg.wf = true ∧ s.atUop .rfSample ∧ s.byteIdx.toNat + 1 = bufCap s.cfg ∧ s.bitIdx = 0 ∧
      ¬ (s.levelAs .datCurr .data = false ∧ s.datPrev = true ∧ s.sigPrev = true ∧
        s.levelAs .sigCurr .clock = true)) :=
  ⟨⟨by decide, ⟨rfl, rfl, rfl⟩, by decide, by decide, by decide⟩, by decide, ⟨rfl, rfl, rfl⟩, by decide,
    rfl, by decide⟩

/-- The quiet bus shows HIGH on both lines; the hypotheses in each of the four waits. -/
theorem meets_ReceiversWaitWithoutBound (n : Nat) :
    let s := { inState .rfEdgeWait with pads := Pads.reset, sigPrev := true, datPrev := true, cmdr := 0xB000 }
    s.busy = true ∧ s.dlyCnt = 0 ∧ releasedBoth s ∧ s.noReset n ∧
    decode 0xB000 = .ok .rxf ∧ decode 0xC000 = .ok .rxa ∧
    ∀ k < n, (s.env.getD k PortIn.quiet).shows .clock s.sigPrev ∧
      (s.env.getD k PortIn.quiet).shows .data s.datPrev :=
  ⟨rfl, rfl, ⟨rfl, rfl⟩, fun _ _ => rfl, by decide, by decide, fun _ _ => ⟨fun _ => rfl, fun _ => rfl⟩⟩

theorem meets_TxaMicroOperations :
    tiny.wf = true ∧ (∀ q, (inState q).cfg = tiny ∧ (inState q).atUop q) ∧
    (∀ q, ({ inState q with dlyCnt := 1 }).busy = true ∧ ({ inState q with dlyCnt := 1 }).st = q) :=
  ⟨by decide, fun q => ⟨rfl, atUop_inState q⟩, fun _ => ⟨rfl, rfl⟩⟩

theorem meets_TxaSendsEightBitCells (n : Nat) :
    (offered (.txa 0x6D) 40).cfg.wf = true ∧ (offered (.txa 0x6D) 40).waiting ∧
    (offered (.txa 0x6D) 40).bound = true ∧ (offered (.txa 0x6D) 40).offers (.txa 0x6D) ∧
    (offered (.txa 0x6D) 40).noReset n :=
  ⟨by decide, waiting_offered .., rfl, ⟨rfl, by decide⟩, noReset_offered _ _ _⟩

/-- No toggle, a toggle inside the byte, and the last one. -/
theorem meets_RxaStoresBitAtToggle :
    (∀ q, (inState q).atUop q) ∧
    (let s := { inState .raAwaitClock with pads := Pads.reset, sigPrev := true, env := bus true false };
      s.atUop .raAwaitClock ∧ s.levelAs .sigCurr .clock = s.sigPrev) ∧
    (let s := { inState .raAwaitClock with pads := Pads.reset, sigPrev := true, env := bus false true };
      s.atUop .raAwaitClock ∧ s.levelAs .sigCurr .clock ≠ s.sigPrev ∧ s.bitIdx = 0) ∧
    (let s := { inState .raAwaitClock with
        pads := Pads.reset, sigPrev := true, bitIdx := 7, env := bus false true };
      s.atUop .raAwaitClock ∧ s.levelAs .sigCurr .clock ≠ s.sigPrev ∧ s.bitIdx ≠ 0) :=
  ⟨atUop_inState, ⟨⟨rfl, rfl, rfl⟩, rfl⟩, ⟨⟨rfl, rfl, rfl⟩, by decide, rfl⟩, ⟨rfl, rfl, rfl⟩, by decide,
    by decide⟩

/-- Nobody drives; one driver; two drivers at different levels. -/
theorem meets_BusLevelFollowsDrivers :
    (∀ p ∈ State.reset.pads :: State.reset.port.peers, p.clkOe = false ∧ p.datOe = false) ∧
    (∀ p ∈ ({ State.reset with env := bus false false }).pads ::
      ({ State.reset with env := bus false false }).port.peers, p.clkOe = true → p.clkOut = false) ∧
    (∃ p ∈ ({ State.reset with env := bus false false }).pads ::
      ({ State.reset with env := bus false false }).port.peers, p.clkOe = true) ∧
    (∃ p ∈ (⟨true, true, true, true⟩ : Pads) :: ({ State.reset with env := bus false false }).port.peers,
      p.clkOe = true ∧ p.clkOut = true) ∧
    (∃ p ∈ (⟨true, true, true, true⟩ : Pads) :: ({ State.reset with env := bus false false }).port.peers,
      p.clkOe = true ∧ p.clkOut = false) := by decide

theorem meets_ReadPortExactAtAllTimes : (inState .tfForce).cfg.wf = true := by decide

theorem meets_ReadPortShowsRegisters : State.reset.cfg.wf = true ∧ State.reset.busy = false := by decide

/-- A busy core with the invariant: BLDS at its first byte. -/
theorem deviceInv_busy : DeviceInv { inState .exec with cmdr := 0x3000 } where
  cfg := by decide
  buf := rfl
  inside := by intro c h; cases h
  len := by decide
  sums := by decide
  byteIdx := by decide
  idle := by decide
  delay := fun h => absurd rfl h
  err := by decide
  run := fun _ => ⟨.blds, by decide, rfl, rfl, by decide, by show 0 < bufCap tiny; decide⟩

theorem meets_StepAlwaysAnswersNext : DeviceInv { inState .exec with cmdr := 0x3000 } := deviceInv_busy

theorem meets_StepKeepsDeviceInv :
    ∃ t, DeviceInv { inState .exec with cmdr := 0x3000 } ∧
      step { inState .exec with cmdr := 0x3000 } = .next t := ⟨_, deviceInv_busy, rfl⟩

theorem meets_CommandsWriteOnlyTheirRegisters :
    ∃ t, DeviceInv { inState .exec with cmdr := 0x3000 } ∧
      ({ inState .exec with cmdr := 0x3000 }).busy = true ∧
      ({ inState .exec with cmdr := 0x3000 }).port.rst = false ∧
      step { inState .exec with cmdr := 0x3000 } = .next t := ⟨_, deviceInv_busy, rfl, rfl, rfl⟩

theorem meets_RegisterRangesHoldInEveryRun :
    ∃ t, DeviceInv { inState .exec with cmdr := 0x3000 } ∧
      runs 2 { inState .exec with cmdr := 0x3000 } = .next t := ⟨_, deviceInv_busy, rfl⟩

theorem meets_BoundedCommandsFinish (n : Nat) :
    DeviceInv { inState .exec with cmdr := 0x3000 } ∧
    ({ inState .exec with cmdr := 0x3000 }).busy = true ∧ opField 0x3000 ∉ [0xB#4, 0xC#4] ∧
    ({ inState .exec with cmdr := 0x3000 }).noReset n := ⟨deviceInv_busy, rfl, by decide, fun _ _ => rfl⟩

theorem meets_ExecKeepsMemoryForm :
    ∃ t, Memory.wf (inState .exec).buf = true ∧ exec .clr (inState .exec) = .next t := ⟨_, rfl, rfl⟩

/-- A host with nothing to do. -/
def idleHost : Session := { Session.fresh [] false [] with phase := .between }

theorem meets_AcknowledgmentRoundTrip :
    let A : Node := ⟨{ inState .raRelease with cmdr := 0xC000 }, idleHost⟩
    let B : Node := ⟨{ inState .taDrive with cmdr := 0xA06D }, idleHost⟩
    A.host.idle ∧ B.host.idle ∧ A.dev.env = [] ∧ B.dev.env = [] ∧ A.dev.cfg.wf = true ∧
    B.dev.cfg.wf = true ∧ A.dev.atUop .raRelease ∧ decode A.dev.cmdr = .ok .rxa ∧
    B.dev.atUop .taDrive ∧ decode B.dev.cmdr = .ok (.txa 0x6D) :=
  ⟨⟨rfl, rfl⟩, ⟨rfl, rfl⟩, rfl, rfl, by decide, by decide, ⟨rfl, rfl, rfl⟩, by decide, ⟨rfl, rfl, rfl⟩,
    by decide⟩

theorem meets_FrameRoundTrip :
    let A : Node := ⟨{ inState .tfDrive with cfg := slow, cmdr := 0x9003 }, idleHost⟩
    let B : Node := ⟨{ inState .rfRelease with cfg := slow, cmdr := 0xB000 }, idleHost⟩
    A.host.idle ∧ B.host.idle ∧ A.dev.env = [] ∧ B.dev.env = [] ∧ A.dev.cfg.wf = true ∧
    B.dev.cfg.wf = true ∧ A.dev.atUop .tfDrive ∧ decode A.dev.cmdr = .ok (.txf 3) ∧
    B.dev.atUop .rfRelease ∧ decode B.dev.cmdr = .ok .rxf ∧ 1 ≤ (3#8).toNat ∧
    (3#8).toNat ≤ bufCap A.dev.cfg ∧ (3#8).toNat + 1 = bufCap B.dev.cfg ∧
    settleTicks B.dev.cfg + 3 + 1 = holdTicks A.dev.cfg :=
  ⟨⟨rfl, rfl⟩, ⟨rfl, rfl⟩, rfl, rfl, by decide, by decide, ⟨rfl, rfl, rfl⟩, by decide, ⟨rfl, rfl, rfl⟩,
    by decide, by decide, by decide, by decide, by decide⟩

/-- For each decision, a host in that phase and a read port that shows what it needs. -/
theorem meets_HostDecisions :
    (∀ p, ({ idleHost with phase := p } : Session).phase = p ∧ ({ idleHost with phase := p } : Session).jobs = []) ∧
    (let read : BitVec 4 → Byte := fun r => if r = 0x6 then 9 else 0;
      read 0x2 ≠ 0x6D ∧ read 0x3 ≠ read 0x6 ∧ (read 0x0).getLsbD 2 = false ∧
      (read 0x0).getLsbD 5 = false) ∧
    (let read : BitVec 4 → Byte := fun r => if r = 0x2 then 0x6D else 0b00100100;
      read 0x2 = 0x6D ∧ (read 0x0).getLsbD 5 = true ∧ read 0x3 = read 0x6 ∧
      (read 0x0).getLsbD 2 = true) :=
  ⟨fun _ => ⟨rfl, rfl⟩, by decide, by decide⟩

/-- A fresh host, one that sees STATUS = 0x02, a device in reset, a tick, and a host at its TXF. -/
theorem meets_HostStartsUpFirst :
    (Session.fresh [.receive] true []).phase = .startUp ∧
    (∃ read : BitVec 4 → Byte, read 0x0 = 0x02) ∧
    (Node.fresh tiny [{ PortIn.quiet with rst := true }] idleHost).dev.port.rst = true ∧
    (∃ n', (Node.fresh tiny [] (Session.fresh [.receive] true [])).startsUpFirst ∧
      (Node.fresh tiny [] (Session.fresh [.receive] true [])).tick [] = .next n') ∧
    (let n : Node := ⟨{ State.reset with bound := true }, { idleHost with phase := .sendFrame }⟩;
      n.startsUpFirst ∧ (n.hostMove n.dev).1 = some (.txf 3) ∧ isLineCommand (.txf 3) = true) :=
  ⟨rfl, ⟨fun _ => 0x02, rfl⟩, rfl, ⟨_, .inl rfl, rfl⟩, .inr (.inr rfl), by decide, rfl⟩

/-- Two devices, one of them clocked, on a line that one of them drives. -/
theorem meets_BusIsOneMedium :
    let A := Node.fresh tiny [] idleHost
    let B : Node := ⟨inState .tfDrive, idleHost⟩
    (∃ ns', netTick ([A] ++ B :: []) [true, false] = .next ns') ∧
    netLevel .clock ([A] ++ B :: []) ≠ .contention := ⟨⟨_, rfl⟩, by decide⟩

/-- R47, R49: what stands in a device's own queue is not on the bus, and the other device's LOW is. -/
theorem test_one_bus :
    let low : Pads := ⟨true, false, true, true⟩
    let B : Node := ⟨{ State.reset with pads := low }, idleHost⟩
    (({ State.reset with env := bus false true }).seeing (padsOf [B])).busLevel .data = .agreed false ∧
    (({ State.reset with env := bus false true }).seeing (padsOf [B])).busLevel .clock = .agreed true := by
  decide

/-- R203: the host's first command after reset is BIND, and a reset sends it back there. A job that the
reset cut off is begun afresh or dropped, as the host is (log 23). -/
theorem test_host_start_up (redo : Bool) :
    ((Session.fresh [.receive] redo []).tick true fun _ => 0).1 = some .bind ∧
    ({ idleHost with phase := .testFrame, current := some .receive, redo := redo } : Session).cutOff =
      Session.fresh (if redo then [.receive] else []) redo [] := by
  cases redo <;> decide

end Sys2Proof.Machine.Tests
end

/-! ## Command words: the decoder reads back what the encoder writes (spec/30_encoding.md R68 to R71) -/

namespace Sys2Proof

/-- The decoder reads from a command's word that command. -/
theorem decode_encode (i : Instr) : decode (encode i) = .ok i := by
  cases i <;> simp [decode, encode, formatZ, formatI]

theorem formatZ_ok {w : CmdWord} {i j : Instr} (h : formatZ w i = .ok j) : j = i := by
  unfold formatZ at h
  split_ifs at h
  simpa using h.symm

theorem formatI_ok {w : CmdWord} {f : Byte → Instr} {j : Instr} (h : formatI w f = .ok j) :
    j = f (immField w) := by
  unfold formatI at h
  split_ifs at h
  simpa using h.symm

/-- A word that decodes to a command has that command's opcode. -/
theorem opField_of_decode {w : CmdWord} {i : Instr} (h : decode w = .ok i) :
    opField w = opField (encode i) := by
  apply BitVec.eq_of_toNat_eq
  unfold decode at h
  split at h <;> rename_i hop
  case h_1 | h_2 | h_3 | h_4 | h_8 | h_12 | h_13 => simp [formatZ_ok h, encode, hop]
  case h_5 | h_6 | h_7 | h_9 | h_10 | h_11 => simp [formatI_ok h, encode, hop]
  case h_14 => cases h

end Sys2Proof

/-! ## One tick of a command: its delay and its micro-operation (spec/10_state.md R21) -/

namespace Sys2Proof.Machine

/-- What happens in the tick in which a delay of the command ends (R21, R108, R126, R144). -/
def afterDelay : Instr → State → State
  | .txf m => txfAfter m
  | .txa _ => txaAfter
  | .rxf => rxfAfter
  | _ => id

/-- The micro-operation of the command (R9). -/
def microOp : Instr → State → Answer
  | .nop => inExec fun s => .next s.done
  | .bind => inExec fun s => .next { s with bound := true }.done
  | .clr => inExec clearTick
  | .blds => inExec bldsTick
  | .putb b => inExec fun s => .next (putbTick b s).done
  | .blde d => inExec fun s => withIndex s (trailerIndex s 2) (.next (bldeTick d s).done)
  | .setl n => inExec fun s => .next { s with len := n }.done
  | .vfy => inExec vfyTick
  | .getb i => inExec fun s => withIndex s i.toNat (.next { s with dout := s.byteAt i.toNat }.done)
  | .txf m => txfUop m
  | .txa a => txaUop a
  | .rxf => rxfUop
  | .rxa => rxaUop

/-- Every arm of `exec` is a tick with the command's own delay and micro-operation. -/
theorem exec_eq_commandTick (i : Instr) (s : State) :
    exec i s = commandTick i (afterDelay i) (microOp i) s := by
  cases i <;> rfl

theorem exec_countDown (i : Instr) {s : State} (hb : s.busy = true) (hd : s.dlyCnt ≠ 0) :
    exec i s = .next (s.countDown (afterDelay i)) := by
  rw [exec_eq_commandTick, commandTick_delay hb hd]

/-- Everything a tick of a command can answer a next state for. -/
theorem exec_next {i : Instr} {s t : State} (h : exec i s = .next t) :
    s.busy = false ∧ t = s.accept i ∨
      s.busy = true ∧ s.dlyCnt = 0 ∧ microOp i s = .next t ∨
      s.busy = true ∧ s.dlyCnt ≠ 0 ∧ t = s.countDown (afterDelay i) := by
  rw [exec_eq_commandTick] at h
  rcases commandTick_cases i (afterDelay i) (microOp i) s with
    ⟨hb, he⟩ | ⟨hb, hd, he⟩ | ⟨hb, hd, he⟩ <;> rw [he] at h
  · exact .inl ⟨hb, by simpa using h.symm⟩
  · exact .inr (.inl ⟨hb, hd, h⟩)
  · exact .inr (.inr ⟨hb, hd, by simpa using h.symm⟩)

/-- A micro-operation of state EXEC in its own state (R22). -/
theorem inExec_exec {uop : State → Answer} {s : State} (hs : s.st = .exec) : inExec uop s = uop s := by
  simp [inExec, hs]

/-- Everything a micro-operation of state EXEC can answer a next state for. -/
theorem inExec_next {uop : State → Answer} {s t : State} (h : inExec uop s = .next t) :
    uop s = .next t ∨ t = s := by
  unfold inExec at h
  split at h
  · exact .inl h
  · exact .inr (by simpa using h.symm)

/-! ## The end of a delay writes the sequencer's registers only (R21, R189) -/

/-- The end of a delay moves the sequencer and writes nothing else. -/
theorem afterDelay_frame (i : Instr) (s : State) :
    afterDelay i s = { s with st := (afterDelay i s).st, busy := (afterDelay i s).busy } := by
  cases i with
  | txf m =>
    simp only [afterDelay, txfAfter]
    cases s.st
    case tfStartHi | tfBitClock => dsimp only [txfLoop]; split_ifs <;> rfl
    case tfForce => dsimp only; split_ifs <;> rfl
    all_goals rfl
  | txa a =>
    simp only [afterDelay, txaAfter]
    cases s.st
    case taBitClock => dsimp only; split_ifs <;> rfl
    all_goals rfl
  | rxf =>
    simp only [afterDelay, rxfAfter]
    cases s.st <;> rfl
  | _ => rfl

/-- One tick of a delay writes ST, BUSY and DLYCNT only. -/
theorem countDown_frame (i : Instr) (s : State) :
    s.countDown (afterDelay i) =
      { s with
        st := (s.countDown (afterDelay i)).st
        busy := (s.countDown (afterDelay i)).busy
        dlyCnt := s.dlyCnt - 1 } := by
  rcases s.countDown_cases (afterDelay i) with ⟨h1, he⟩ | ⟨h1, he⟩
  · rw [he, afterDelay_frame]
    simp [h1]
  · rw [he]

/-- A delay begun in a tick writes ST, BUSY and DLYCNT only, whether it takes ticks or none. -/
theorem delay_frame (i : Instr) (s : State) (n : Nat) :
    s.delay n (afterDelay i) =
      { s with
        st := (s.delay n (afterDelay i)).st
        busy := (s.delay n (afterDelay i)).busy
        dlyCnt := (s.delay n (afterDelay i)).dlyCnt } := by
  rcases s.delay_cases n (afterDelay i) with ⟨-, he⟩ | ⟨-, he⟩
  · rw [he, afterDelay_frame]
  · rw [he]

/-- Settles O14: a pending delay is counted down by every command alike, and its end only moves the
sequencer. -/
theorem delayStallsSequencer : Obligations.DelayStallsSequencer := by
  intro i s hb
  refine ⟨fun h2 => ?_, fun h1 => ?_⟩
  · rw [exec_countDown i hb (by omega), State.countDown, if_neg (by omega)]
  · refine ⟨_, exec_countDown i hb (by omega), ?_, ?_⟩
    · rw [countDown_frame]
      simp [h1]
    · rw [countDown_frame]

end Sys2Proof.Machine

/-! ## What the micro-operations write (spec/10_state.md R32) -/

namespace Sys2Proof.Machine

/-- The registers that a micro-operation of a command writes: the "w" entries of its column in the table
of R32, with ST, BUSY and the hidden loop registers (log 9). Every other field of `t` is that of `s`. -/
def writesOnly (s t : State) : Instr → Prop
  | .nop => t = { s with st := t.st, busy := t.busy }
  | .bind => t = { s with st := t.st, busy := t.busy, bound := t.bound }
  | .clr => t = { s with st := t.st, busy := t.busy, loopIdx := t.loopIdx, buf := t.buf }
  | .blds =>
    t = { s with st := t.st, busy := t.busy, loopIdx := t.loopIdx, buf := t.buf, len := t.len,
                 sum1 := t.sum1, sum2 := t.sum2 }
  | .putb _ =>
    t = { s with st := t.st, busy := t.busy, buf := t.buf, len := t.len, sum1 := t.sum1, sum2 := t.sum2 }
  | .blde _ => t = { s with st := t.st, busy := t.busy, buf := t.buf }
  | .setl _ => t = { s with st := t.st, busy := t.busy, len := t.len }
  | .vfy =>
    t = { s with st := t.st, busy := t.busy, loopIdx := t.loopIdx, acc1 := t.acc1, acc2 := t.acc2,
                 sum1 := t.sum1, sum2 := t.sum2, csok := t.csok }
  | .getb _ => t = { s with st := t.st, busy := t.busy, dout := t.dout }
  | .txf _ =>
    t = { s with st := t.st, busy := t.busy, dlyCnt := t.dlyCnt, byteIdx := t.byteIdx, bitIdx := t.bitIdx,
                 phase := t.phase, pads := t.pads }
  | .txa _ =>
    t = { s with st := t.st, busy := t.busy, dlyCnt := t.dlyCnt, bitIdx := t.bitIdx, phase := t.phase,
                 pads := t.pads }
  | .rxf =>
    t = { s with st := t.st, busy := t.busy, dlyCnt := t.dlyCnt, buf := t.buf, len := t.len,
                 sigPrev := t.sigPrev, datPrev := t.datPrev, sigCurr := t.sigCurr, datCurr := t.datCurr,
                 frameEnd := t.frameEnd, ovf := t.ovf, short := t.short, byteIdx := t.byteIdx,
                 bitIdx := t.bitIdx, pads := { s.pads with clkOe := t.pads.clkOe, datOe := t.pads.datOe } }
  | .rxa =>
    t = { s with st := t.st, busy := t.busy, sigPrev := t.sigPrev, datPrev := t.datPrev,
                 sigCurr := t.sigCurr, datCurr := t.datCurr, bitIdx := t.bitIdx, ackv := t.ackv,
                 pads := { s.pads with clkOe := t.pads.clkOe, datOe := t.pads.datOe } }

theorem clearTick_frame {s t : State} (h : clearTick s = .next t) :
    t = { s with st := t.st, busy := t.busy, loopIdx := t.loopIdx, buf := t.buf } := by
  obtain ⟨-, h⟩ := withIndex_next.mp h
  cases h
  split_ifs <;> rfl

theorem bldsTick_frame {s t : State} (h : bldsTick s = .next t) :
    t = { s with st := t.st, busy := t.busy, loopIdx := t.loopIdx, buf := t.buf, len := t.len,
                 sum1 := t.sum1, sum2 := t.sum2 } := by
  unfold bldsTick at h
  split_ifs at h <;> rw [clearTick_frame h]

theorem vfyTick_frame {s t : State} (h : vfyTick s = .next t) :
    t = { s with st := t.st, busy := t.busy, loopIdx := t.loopIdx, acc1 := t.acc1, acc2 := t.acc2,
                 sum1 := t.sum1, sum2 := t.sum2, csok := t.csok } := by
  unfold vfyTick at h
  split_ifs at h <;> obtain ⟨-, h⟩ := withIndex_next.mp h <;> cases h <;> rfl

theorem txfHold_frame {m : Byte} {s t : State} (h : txfHold m s = .next t) :
    t = { s with st := t.st, busy := t.busy, dlyCnt := t.dlyCnt } := by
  cases h
  exact delay_frame (.txf m) s _

theorem txfUop_frame {m : Byte} {s t : State} (h : txfUop m s = .next t) :
    t = { s with st := t.st, busy := t.busy, dlyCnt := t.dlyCnt, byteIdx := t.byteIdx, bitIdx := t.bitIdx,
                 phase := t.phase, pads := t.pads } := by
  cases hst : s.st <;> simp only [txfUop, hst] at h
  case tfBitData =>
    obtain ⟨-, h⟩ := withIndex_next.mp h
    cases h
    rfl
  case tfDrive | tfStartLo | tfStartHi | tfBitClock | tfForce | tfNorm | tfStopLo | tfStopHi =>
    rw [txfHold_frame h]
    rfl
  all_goals cases h; rfl

theorem txaUop_frame {a : Byte} {s t : State} (h : txaUop a s = .next t) :
    t = { s with st := t.st, busy := t.busy, dlyCnt := t.dlyCnt, bitIdx := t.bitIdx, phase := t.phase,
                 pads := t.pads } := by
  cases hst : s.st <;> simp only [txaUop, hst] at h <;> cases h
  case taDrive | taBitClock =>
    rw [show txaAfter = afterDelay (.txa a) from rfl, delay_frame]
    rfl
  all_goals rfl

theorem rxfSettle_frame (s : State) :
    rxfSettle s = { s with st := (rxfSettle s).st, busy := (rxfSettle s).busy,
                           dlyCnt := (rxfSettle s).dlyCnt } :=
  delay_frame .rxf (s.goto .rfSettle) _

theorem rxfGuard_frame (s : State) :
    rxfGuard s = { s with st := (rxfGuard s).st, busy := (rxfGuard s).busy, len := (rxfGuard s).len,
                          frameEnd := (rxfGuard s).frameEnd, ovf := (rxfGuard s).ovf,
                          short := (rxfGuard s).short } := by
  unfold rxfGuard
  split_ifs <;> rfl

theorem rxfDecide_frame {s t : State} (h : rxfDecide s = .next t) :
    t = { s with st := t.st, busy := t.busy, buf := t.buf, len := t.len, sigPrev := t.sigPrev,
                 datPrev := t.datPrev, frameEnd := t.frameEnd, ovf := t.ovf, short := t.short,
                 byteIdx := t.byteIdx, bitIdx := t.bitIdx } := by
  unfold rxfDecide at h
  split_ifs at h
  · cases h
    rfl
  · obtain ⟨-, h⟩ := withIndex_next.mp h
    cases h
    rw [rxfStore, rxfGuard_frame]
    rfl

theorem rxfUop_frame {s t : State} (h : rxfUop s = .next t) :
    t = { s with st := t.st, busy := t.busy, dlyCnt := t.dlyCnt, buf := t.buf, len := t.len,
                 sigPrev := t.sigPrev, datPrev := t.datPrev, sigCurr := t.sigCurr, datCurr := t.datCurr,
                 frameEnd := t.frameEnd, ovf := t.ovf, short := t.short, byteIdx := t.byteIdx,
                 bitIdx := t.bitIdx,
                 pads := { s.pads with clkOe := t.pads.clkOe, datOe := t.pads.datOe } } := by
  cases hst : s.st <;> simp only [rxfUop, hst] at h
  case rfSample =>
    rw [rxfDecide_frame h]
    rfl
  all_goals cases h
  case rfAwaitData | rfAwaitClock => split_ifs <;> rfl
  case rfEdgeWait =>
    split_ifs
    · rw [rxfSettle_frame]
      rfl
    · rfl
  case rfSettle => rw [show rxfAfter = afterDelay .rxf from rfl, afterDelay_frame]
  all_goals rfl

theorem rxaUop_frame {s t : State} (h : rxaUop s = .next t) :
    t = { s with st := t.st, busy := t.busy, sigPrev := t.sigPrev, datPrev := t.datPrev,
                 sigCurr := t.sigCurr, datCurr := t.datCurr, bitIdx := t.bitIdx, ackv := t.ackv,
                 pads := { s.pads with clkOe := t.pads.clkOe, datOe := t.pads.datOe } } := by
  cases hst : s.st <;> simp only [rxaUop, hst] at h <;> cases h
  case raAwaitClock =>
    unfold rxaStore
    split_ifs <;> rfl
  all_goals rfl

theorem putbTick_frame (b : Byte) (s : State) :
    putbTick b s = { s with buf := (putbTick b s).buf, len := (putbTick b s).len,
                            sum1 := (putbTick b s).sum1, sum2 := (putbTick b s).sum2 } := by
  unfold putbTick
  split_ifs <;> rfl

/-- A micro-operation of state EXEC obeys the table when it does in its own state (log 20). -/
theorem inExec_writesOnly {i : Instr} {uop : State → Answer} {s t : State} (hs : writesOnly s s i)
    (hu : uop s = .next t → writesOnly s t i) (h : inExec uop s = .next t) : writesOnly s t i := by
  rcases inExec_next h with h | rfl
  · exact hu h
  · exact hs

/-- Every micro-operation writes the registers of its command's column only. -/
theorem microOp_writesOnly {i : Instr} {s t : State} (h : microOp i s = .next t) : writesOnly s t i := by
  cases i <;> dsimp only [microOp] at h
  case txf => exact txfUop_frame h
  case txa => exact txaUop_frame h
  case rxf => exact rxfUop_frame h
  case rxa => exact rxaUop_frame h
  all_goals refine inExec_writesOnly rfl (fun h => ?_) h
  case clr => exact clearTick_frame h
  case blds => exact bldsTick_frame h
  case vfy => exact vfyTick_frame h
  case nop | bind | setl => cases h; rfl
  case putb => cases h; rw [putbTick_frame]; rfl
  case blde | getb =>
    obtain ⟨-, h⟩ := withIndex_next.mp h
    cases h
    rfl

/-- No micro-operation writes the configuration, the command, the error registers, the reset epoch or the
input queue. -/
theorem microOp_keeps {i : Instr} {s t : State} (h : microOp i s = .next t) :
    t.cfg = s.cfg ∧ t.cmdr = s.cmdr ∧ t.err = s.err ∧ t.errCode = s.errCode ∧ t.resets = s.resets ∧
      t.env = s.env := by
  have hw := microOp_writesOnly h
  cases i <;> rw [hw] <;> exact ⟨rfl, rfl, rfl, rfl, rfl, rfl⟩

/-! ## What a whole tick keeps -/

/-- A tick of a command in a busy core is a micro-operation or one tick of a delay. -/
theorem exec_busy_next {i : Instr} {s t : State} (hb : s.busy = true) (h : exec i s = .next t) :
    s.dlyCnt = 0 ∧ microOp i s = .next t ∨ s.dlyCnt ≠ 0 ∧ t = s.countDown (afterDelay i) := by
  rcases exec_next h with ⟨hf, -⟩ | ⟨-, hd, hu⟩ | ⟨-, hd, ht⟩
  · simp [hb] at hf
  · exact .inl ⟨hd, hu⟩
  · exact .inr ⟨hd, ht⟩

theorem accept_keeps (s : State) (i : Instr) :
    (s.accept i).cfg = s.cfg ∧ (s.accept i).resets = s.resets ∧ (s.accept i).env = s.env ∧
      (s.accept i).buf = s.buf := by
  rcases s.accept_cases i with ⟨-, -, he⟩ | ⟨-, -, he⟩ | ⟨-, -, he⟩ <;> simp [he]

theorem countDown_keeps (i : Instr) (s : State) :
    (s.countDown (afterDelay i)).cfg = s.cfg ∧ (s.countDown (afterDelay i)).resets = s.resets ∧
      (s.countDown (afterDelay i)).env = s.env ∧ (s.countDown (afterDelay i)).buf = s.buf := by
  rw [countDown_frame]
  exact ⟨rfl, rfl, rfl, rfl⟩

/-- No tick of a command changes the configuration, begins a new reset epoch or touches the input
queue. -/
theorem exec_keeps {i : Instr} {s t : State} (h : exec i s = .next t) :
    t.cfg = s.cfg ∧ t.resets = s.resets ∧ t.env = s.env := by
  rcases exec_next h with ⟨-, rfl⟩ | ⟨-, -, hu⟩ | ⟨-, -, rfl⟩
  · obtain ⟨hcfg, hresets, henv, -⟩ := accept_keeps s i
    exact ⟨hcfg, hresets, henv⟩
  · obtain ⟨hcfg, -, -, -, hresets, henv⟩ := microOp_keeps hu
    exact ⟨hcfg, hresets, henv⟩
  · obtain ⟨hcfg, hresets, henv, -⟩ := countDown_keeps i s
    exact ⟨hcfg, hresets, henv⟩

/-- A running command's word stays, and no running command raises an error (R159, R184). -/
theorem exec_busy_keeps {i : Instr} {s t : State} (hb : s.busy = true) (h : exec i s = .next t) :
    t.cmdr = s.cmdr ∧ t.err = s.err ∧ t.errCode = s.errCode := by
  rcases exec_busy_next hb h with ⟨-, hu⟩ | ⟨-, rfl⟩
  · obtain ⟨-, hcmdr, herr, hcode, -⟩ := microOp_keeps hu
    exact ⟨hcmdr, herr, hcode⟩
  · rw [countDown_frame]
    exact ⟨rfl, rfl, rfl⟩

/-- Everything a step can answer a next state for: a reset, a tick of a command, an error on a bad word,
or nothing (R155, R200). -/
theorem step_next {s t : State} (h : step s = .next t) :
    s.work = .reset ∧ t = s.resetTick.endTick ∨
      (∃ i u, s.work = .command i ∧ exec i s = .next u ∧ t = u.endTick) ∨
      (∃ e, s.work = .badWord e ∧ t = (s.cmdError e).endTick) ∨
      s.work = .nothing ∧ t = s.endTick := by
  rcases step_cases s with ⟨hw, he⟩ | ⟨i, hw, he⟩ | ⟨e, hw, he⟩ | ⟨hw, he⟩ | ⟨hw, he⟩ <;> rw [he] at h
  · exact .inl ⟨hw, by simpa using h.symm⟩
  · obtain ⟨u, hu, rfl⟩ := onNext_next.mp h
    exact .inr (.inl ⟨i, u, hw, hu, rfl⟩)
  · exact .inr (.inr (.inl ⟨e, hw, by simpa using h.symm⟩))
  · exact .inr (.inr (.inr ⟨hw, by simpa using h.symm⟩))
  · cases h

/-- The command that a busy core's tick is about is the one in CMDR (R155, R159). -/
theorem decode_cmdr_of_work {s : State} {i : Instr} (hb : s.busy = true) (hw : s.work = .command i) :
    decode s.cmdr = .ok i := by
  rcases s.work_cases with ⟨-, he⟩ | ⟨-, -, he⟩ | ⟨-, hf, -⟩ | ⟨-, hf, -⟩
  · simp [hw] at he
  · rw [hw] at he
    cases hd : decode s.cmdr <;> simp_all [running]
  · simp [hb] at hf
  · simp [hb] at hf

/-- Without reset a step of a busy core is a tick of the command in CMDR (R155, R159). -/
theorem step_busy_next {s t : State} (hr : s.port.rst = false) (hb : s.busy = true)
    (h : step s = .next t) : ∃ i u, decode s.cmdr = .ok i ∧ exec i s = .next u ∧ t = u.endTick := by
  have hrun : s.work = running (decode s.cmdr) := by simp [State.work, hr, hb]
  cases hd : decode s.cmdr <;> rw [hd] at hrun
  · simp [step, hrun, running] at h
  · simp only [step, hrun, running, onNext_next] at h
    obtain ⟨u, hu, rfl⟩ := h
    exact ⟨_, u, rfl, hu, rfl⟩

theorem step_cfg {s t : State} (h : step s = .next t) : t.cfg = s.cfg := by
  rcases step_next h with ⟨-, rfl⟩ | ⟨i, u, -, hu, rfl⟩ | ⟨e, -, rfl⟩ | ⟨-, rfl⟩
  · rfl
  · obtain ⟨hcfg, -⟩ := exec_keeps hu
    exact hcfg
  · rfl
  · rfl

/-- Settles O13: by the frames of the micro-operations and of a delay. -/
theorem configurationAndRunningWordStay : Obligations.ConfigurationAndRunningWordStay := by
  intro s t h
  refine ⟨step_cfg h, fun hr hb => ?_⟩
  obtain ⟨i, u, -, hu, rfl⟩ := step_busy_next hr hb h
  obtain ⟨hcmdr, -⟩ := exec_busy_keeps hb hu
  exact hcmdr

/-- The commands whose column of R32 has no "w" at BUF store nothing. -/
theorem microOp_buf {i : Instr} {s t : State}
    (hi : ∃ b, i = .nop ∨ i = .bind ∨ i = .setl b ∨ i = .vfy ∨ i = .getb b ∨ i = .txf b ∨ i = .txa b ∨
      i = .rxa) (h : microOp i s = .next t) : t.buf = s.buf := by
  have hw := microOp_writesOnly h
  obtain ⟨b, rfl | rfl | rfl | rfl | rfl | rfl | rfl | rfl⟩ := hi <;> rw [hw]

/-- Settles O31: acceptance, a delay and these commands' micro-operations all leave the list, the device
and the reset epoch, on which alone a read depends. -/
theorem nonStoringCommandsKeepBuffer : Obligations.NonStoringCommandsKeepBuffer := by
  intro i s t hi h a
  obtain ⟨hcfg, hresets, -⟩ := exec_keeps h
  refine State.byteAt_congr ?_ hcfg hresets a
  rcases exec_next h with ⟨-, rfl⟩ | ⟨-, -, hu⟩ | ⟨-, -, rfl⟩
  · obtain ⟨-, -, -, hbuf⟩ := accept_keeps s i
    exact hbuf
  · exact microOp_buf hi hu
  · obtain ⟨-, -, -, hbuf⟩ := countDown_keeps i s
    exact hbuf

end Sys2Proof.Machine

/-! ## The read port (spec/10_state.md R26, R27) -/

namespace Sys2Proof.Machine

/-- The bits marked exact come from the register, in an idle core and in a busy one. -/
theorem readPort_getLsbD {s : State} {r : BitVec 4} {k : Nat}
    (h : (exactWhileBusy r).getLsbD k = true) : (readPort s r).getLsbD k = (readExact s r).getLsbD k := by
  unfold readPort
  split_ifs
  · simp [h]
  · rfl

/-- An entry that is exact in every bit shows its register at all times. -/
theorem readPort_exact {s : State} {r : BitVec 4} (h : exactWhileBusy r = 0xFF) :
    readPort s r = readExact s r := by
  apply BitVec.eq_of_getLsbD_eq
  intro k hk
  apply readPort_getLsbD
  rw [h]
  interval_cases k <;> rfl

theorem readPort_idle {s : State} (hb : s.busy = false) (r : BitVec 4) : readPort s r = readExact s r := by
  simp [readPort, hb]

/-- Zero bits above a register do not change its number. -/
theorem toNat_zeros_append {n w : Nat} (x : BitVec w) : (0#n ++ x).toNat = x.toNat := by
  simp [BitVec.toNat_append]

/-- A legal PAYLOAD_CAP fits its entry (R5, R26). -/
theorem readExact_payloadCap {s : State} (hc : s.cfg.wf = true) :
    (readExact s 0xD).toNat = s.cfg.payloadCap := by
  simp only [Config.wf, Bool.and_eq_true, decide_eq_true_eq] at hc
  show (BitVec.ofNat 8 s.cfg.payloadCap).toNat = _
  rw [BitVec.toNat_ofNat]
  omega

/-- A legal T_US fits its two entries (R5, R26). -/
theorem readExact_halfPeriod {s : State} (hc : s.cfg.wf = true) :
    (readExact s 0xF).toNat * 256 + (readExact s 0xE).toNat = s.cfg.tUs := by
  simp only [Config.wf, Bool.and_eq_true, decide_eq_true_eq] at hc
  show ((halfPeriodWord s.cfg).extractLsb' 8 8).toNat * 256
    + ((halfPeriodWord s.cfg).extractLsb' 0 8).toNat = _
  simp only [halfPeriodWord, BitVec.extractLsb'_toNat, BitVec.toNat_ofNat, Nat.shiftRight_eq_div_pow]
  omega

/-- Settles O46: an idle core shows `readExact`, whose entries are the registers by definition; the
constants fit by the legal configuration. -/
theorem readPortShowsRegisters : Obligations.ReadPortShowsRegisters := by
  intro s hc hb
  simp only [readPort_idle hb]
  exact ⟨rfl, rfl, rfl, rfl, rfl, rfl, rfl, toNat_zeros_append _, toNat_zeros_append _, rfl,
    toNat_zeros_append _, rfl, rfl, readExact_payloadCap hc, readExact_halfPeriod hc⟩

theorem statusByte_bits (s : State) :
    (statusByte s).getLsbD 0 = s.busy ∧ (statusByte s).getLsbD 1 = s.bound ∧
      (statusByte s).getLsbD 6 = s.err := by
  simp only [statusByte, BitVec.getLsbD_append, BitVec.getLsbD_ofBool]
  simp

/-- Settles O47: the mask of the busy read port keeps these bits and entries. -/
theorem readPortExactAtAllTimes : Obligations.ReadPortExactAtAllTimes := by
  intro s hc
  obtain ⟨hbusy, hbound, herr⟩ := statusByte_bits s
  refine ⟨(readPort_getLsbD rfl).trans hbusy, (readPort_getLsbD rfl).trans hbound,
    (readPort_getLsbD rfl).trans herr, ?_, ?_, readPort_exact rfl, ?_, ?_⟩
  · exact (congrArg _ (readPort_exact rfl)).trans (toNat_zeros_append _)
  · exact (congrArg _ (readPort_exact rfl)).trans (toNat_zeros_append _)
  · rw [readPort_exact rfl, readExact_payloadCap hc]
  · rw [readPort_exact rfl, readPort_exact rfl, readExact_halfPeriod hc]

end Sys2Proof.Machine

/-! ## The input queue: a tick reads only its first entry, and not its `rsel` (R26, R28; log 19) -/

namespace Sys2Proof.Machine

/-- The state with another input queue. -/
def State.withEnv (s : State) (e : List PortIn) : State := { s with env := e }

/-- The queue `e` shows the same pads of the other devices in this tick as the queue of `s`. -/
def State.samePeers (s : State) (e : List PortIn) : Prop := (s.withEnv e).port.peers = s.port.peers

/-- A sample reads the queue's pads and nothing else of it. -/
theorem State.sample2_withEnv {s : State} {e : List PortIn} (h : s.samePeers e) :
    (s.withEnv e).sample2 = s.sample2.withEnv e := by
  have hl (who : Sampler) (l : Line) : (s.withEnv e).levelAs who l = s.levelAs who l := by
    unfold State.levelAs State.busLevel
    rw [h]
    rfl
  simp only [State.sample2, hl]
  rfl

variable (s : State) (e : List PortIn)

theorem State.ite_withEnv (c : Prop) [Decidable c] (t : State) :
    (if c then s else t).withEnv e = if c then s.withEnv e else t.withEnv e :=
  apply_ite (State.withEnv · e) c s t

theorem onNext_ite (f : State → State) (c : Prop) [Decidable c] (a b : Answer) :
    onNext f (if c then a else b) = if c then onNext f a else onNext f b := apply_ite (onNext f) c a b

theorem onNext_withIndex (f : State → State) (i : Nat) (a : Answer) :
    onNext f (withIndex s i a) = withIndex s i (onNext f a) := onNext_ite f _ a _

@[simp] theorem State.withEnv_st : (s.withEnv e).st = s.st := rfl

theorem txfLoop_withEnv (m : Byte) : txfLoop m (s.withEnv e) = (txfLoop m s).withEnv e := by
  unfold txfLoop
  rw [State.ite_withEnv]
  rfl

theorem afterDelay_withEnv (i : Instr) : afterDelay i (s.withEnv e) = (afterDelay i s).withEnv e := by
  cases i with
  | txf m =>
    simp only [afterDelay, txfAfter, State.withEnv_st]
    cases s.st
    case tfStartHi | tfBitClock => exact txfLoop_withEnv s e m
    case tfForce => dsimp only; rw [State.ite_withEnv]; rfl
    all_goals rfl
  | txa a =>
    simp only [afterDelay, txaAfter, State.withEnv_st]
    cases s.st
    case taBitClock => dsimp only; rw [State.ite_withEnv]; rfl
    all_goals rfl
  | rxf =>
    simp only [afterDelay, rxfAfter, State.withEnv_st]
    cases s.st <;> rfl
  | _ => rfl

theorem countDown_withEnv (i : Instr) :
    (s.withEnv e).countDown (afterDelay i) = (s.countDown (afterDelay i)).withEnv e := by
  unfold State.countDown
  rw [State.ite_withEnv, ← afterDelay_withEnv]
  rfl

theorem delay_withEnv (i : Instr) (n : Nat) :
    (s.withEnv e).delay n (afterDelay i) = (s.delay n (afterDelay i)).withEnv e := by
  unfold State.delay
  rw [State.ite_withEnv, ← afterDelay_withEnv]
  rfl

theorem accept_withEnv (i : Instr) : (s.withEnv e).accept i = (s.accept i).withEnv e := by
  unfold State.accept
  rw [State.ite_withEnv, State.ite_withEnv]
  rfl

theorem clearTick_withEnv : clearTick (s.withEnv e) = onNext (·.withEnv e) (clearTick s) := by
  unfold clearTick
  dsimp only
  rw [onNext_withIndex, onNext, State.ite_withEnv]
  rfl

theorem bldsTick_withEnv : bldsTick (s.withEnv e) = onNext (·.withEnv e) (bldsTick s) := by
  unfold bldsTick
  rw [← clearTick_withEnv, State.ite_withEnv]
  rfl

theorem vfyTick_withEnv : vfyTick (s.withEnv e) = onNext (·.withEnv e) (vfyTick s) := by
  unfold vfyTick
  rw [onNext_ite, onNext_withIndex, onNext_withIndex]
  rfl

theorem putbTick_withEnv (b : Byte) : putbTick b (s.withEnv e) = (putbTick b s).withEnv e := by
  unfold putbTick
  dsimp only
  rw [State.ite_withEnv]
  rfl

theorem txfHold_withEnv (m : Byte) : txfHold m (s.withEnv e) = onNext (·.withEnv e) (txfHold m s) :=
  congrArg _ (delay_withEnv s e (.txf m) _)

theorem txfUop_withEnv (m : Byte) : txfUop m (s.withEnv e) = onNext (·.withEnv e) (txfUop m s) := by
  simp only [txfUop, State.withEnv_st]
  cases s.st
  case tfDrive => exact txfHold_withEnv s.driveBothHigh e m
  case tfStartLo | tfStopLo => exact txfHold_withEnv (s.writeData false) e m
  case tfStartHi =>
    exact txfHold_withEnv { s.writeData true with phase := false, byteIdx := 0, bitIdx := 7 } e m
  case tfBitData => dsimp only; rw [onNext_withIndex]; rfl
  case tfBitClock => exact txfHold_withEnv s.clockPhase.advanceBit e m
  case tfForce | tfStopHi => exact txfHold_withEnv (s.writeData true) e m
  case tfNorm => exact txfHold_withEnv (s.writeClock true) e m
  all_goals rfl

theorem txaUop_withEnv (a : Byte) : txaUop a (s.withEnv e) = onNext (·.withEnv e) (txaUop a s) := by
  simp only [txaUop, State.withEnv_st]
  cases s.st
  case taDrive =>
    exact congrArg _ (delay_withEnv { s.driveBothHigh with phase := false, bitIdx := 7 } e (.txa a) _)
  case taBitClock => exact congrArg _ (delay_withEnv s.clockPhase.ackBitDown e (.txa a) _)
  all_goals rfl

theorem rxfGuard_withEnv : rxfGuard (s.withEnv e) = (rxfGuard s).withEnv e := by
  unfold rxfGuard
  rw [State.ite_withEnv]
  rfl

theorem rxfStore_withEnv : rxfStore (s.withEnv e) = (rxfStore s).withEnv e :=
  rxfGuard_withEnv (s.saveEdge.putBit (positionIndex s) s.bitIdx s.datCurr).advanceBit e

theorem rxfDecide_withEnv : rxfDecide (s.withEnv e) = onNext (·.withEnv e) (rxfDecide s) := by
  unfold rxfDecide
  rw [rxfStore_withEnv, onNext_ite, onNext_withIndex]
  rfl

theorem rxaStore_withEnv : rxaStore (s.withEnv e) = (rxaStore s).withEnv e := by
  unfold rxaStore
  dsimp only
  rw [State.ite_withEnv]
  rfl

variable {s e}

theorem rxfUop_withEnv (h : s.samePeers e) : rxfUop (s.withEnv e) = onNext (·.withEnv e) (rxfUop s) := by
  simp only [rxfUop, State.withEnv_st, State.sample2_withEnv h]
  cases s.st
  case rfAwaitData | rfAwaitClock => dsimp only [onNext]; rw [State.ite_withEnv]; rfl
  case rfEdgeWait =>
    dsimp only [onNext]
    rw [State.ite_withEnv, ← show rxfSettle (s.sample2.withEnv e) = (rxfSettle s.sample2).withEnv e from
      delay_withEnv (s.sample2.goto .rfSettle) e .rxf _]
    rfl
  case rfSettle => exact congrArg _ (afterDelay_withEnv s e .rxf)
  case rfSample => exact rxfDecide_withEnv s.sample2 e
  all_goals rfl

theorem rxaUop_withEnv (h : s.samePeers e) : rxaUop (s.withEnv e) = onNext (·.withEnv e) (rxaUop s) := by
  simp only [rxaUop, State.withEnv_st, State.sample2_withEnv h]
  cases s.st
  case raAwaitClock => dsimp only [onNext]; rw [State.ite_withEnv, ← rxaStore_withEnv]; rfl
  all_goals rfl

theorem inExec_withEnv {uop : State → Answer} (hu : uop (s.withEnv e) = onNext (·.withEnv e) (uop s)) :
    inExec uop (s.withEnv e) = onNext (·.withEnv e) (inExec uop s) := by
  simp only [inExec, State.withEnv_st]
  cases s.st
  case exec => exact hu
  all_goals rfl

theorem microOp_withEnv (i : Instr) (h : s.samePeers e) :
    microOp i (s.withEnv e) = onNext (·.withEnv e) (microOp i s) := by
  cases i <;> dsimp only [microOp]
  case txf m => exact txfUop_withEnv s e m
  case txa a => exact txaUop_withEnv s e a
  case rxf => exact rxfUop_withEnv h
  case rxa => exact rxaUop_withEnv h
  all_goals apply inExec_withEnv
  case clr => exact clearTick_withEnv s e
  case blds => exact bldsTick_withEnv s e
  case vfy => exact vfyTick_withEnv s e
  case putb b => rw [putbTick_withEnv]; rfl
  case blde | getb => rw [onNext_withIndex]; rfl
  all_goals rfl

/-- A tick of a command reads the input queue only for the pads of the other devices, and keeps it. -/
theorem exec_withEnv (i : Instr) (h : s.samePeers e) :
    exec i (s.withEnv e) = onNext (·.withEnv e) (exec i s) := by
  simp only [exec_eq_commandTick, commandTick]
  rw [accept_withEnv, countDown_withEnv, microOp_withEnv i h, onNext_ite, onNext_ite]
  rfl

/-- A step reads the first entry of the queue for its work and the pads of the others, and drops it. -/
theorem step_withEnv (hw : (s.withEnv e).work = s.work) (hp : s.samePeers e) (ht : e.tail = s.env.tail) :
    step (s.withEnv e) = step s := by
  have hend : ∀ t : State, t.env = s.env → (t.withEnv e).endTick = t.endTick := by
    intro t henv
    simp [State.endTick, State.withEnv, henv, ht]
  unfold step
  rw [hw]
  cases s.work with
  | command i =>
    dsimp only
    rw [exec_withEnv i hp]
    cases hx : exec i s with
    | next t =>
      obtain ⟨-, -, henv⟩ := exec_keeps hx
      exact congrArg Host.Outcome.next (hend t henv)
    | fault f => rfl
    | refused f => rfl
  | reset => exact congrArg Host.Outcome.next (hend s.resetTick rfl)
  | badWord err => exact congrArg Host.Outcome.next (hend (s.cmdError err) rfl)
  | nothing => exact congrArg Host.Outcome.next (hend s rfl)
  | stray => rfl

/-- Settles O10: `rsel` is neither the work of a tick nor a pad, and the end of the tick drops it. -/
theorem readSelectHasNoSideEffect : Obligations.ReadSelectHasNoSideEffect := by
  intro s r
  exact step_withEnv rfl rfl rfl

end Sys2Proof.Machine

/-! ## The device invariant in two parts: the registers and the sequencer -/

namespace Sys2Proof.Machine

/-- The part of `DeviceInv` that speaks of registers and not of the sequencer. -/
structure RegInv (s : State) : Prop where
  cfg : s.cfg.wf = true
  buf : Memory.wf s.buf = true
  inside : ∀ c ∈ s.buf, c.1 < bufCap s.cfg
  len : s.len.toNat ≤ s.cfg.payloadCap
  sums : s.sum1.toNat ≤ 254 ∧ s.sum2.toNat ≤ 254
  accs : s.acc1.toNat ≤ 254 ∧ s.acc2.toNat ≤ 254
  byteIdx : s.byteIdx.toNat ≤ bufCap s.cfg
  err : (s.err = false ↔ s.errCode = 0) ∧ s.errCode.toNat ≤ 4

/-- The part of `DeviceInv` that speaks of the sequencer while command `i` runs. -/
structure Running (i : Instr) (s : State) : Prop where
  busy : s.busy = true
  owns : ownsState i s.st = true
  delay : s.dlyCnt ≠ 0 → delayState s.st = true ∧ s.dlyCnt ≤ 2 * holdTicks s.cfg
  inv : runInv s i

/-- The word in CMDR is command `i`, and `i` passed every check (R155, R156). -/
structure Accepted (i : Instr) (s : State) : Prop where
  word : decode s.cmdr = .ok i
  wf : i.wf s.cfg = true
  bound : isLineCommand i = true → s.bound = true

theorem DeviceInv.regInv {s : State} (h : DeviceInv s) : RegInv s :=
  have ⟨h1, h2, h3, h4⟩ := h.sums
  { h with sums := ⟨h1, h2⟩, accs := ⟨h3, h4⟩ }

theorem ownsState_ne_idle {i : Instr} {q : Seq} (h : ownsState i q = true) : q ≠ .idle := by
  rintro rfl
  cases i <;> simp [ownsState] at h

/-- TF_NORM is no state of a command that a run reaches (R105). -/
theorem ownsState_ne_tfNorm {i : Instr} {q : Seq} (h : ownsState i q = true) : q ≠ .tfNorm := by
  rintro rfl
  cases i <;> simp [ownsState] at h

theorem DeviceInv.waiting {s : State} (h : DeviceInv s) (hb : s.busy = false) : s.waiting := by
  have hst := h.idle.mp hb
  refine ⟨hb, hst, ?_⟩
  by_contra hd
  have hds := (h.delay hd).1
  simp [hst, delayState] at hds

theorem DeviceInv.running {s : State} (h : DeviceInv s) (hb : s.busy = true) :
    ∃ i, Accepted i s ∧ Running i s := by
  obtain ⟨i, hword, howns, hwf, hbound, hinv⟩ := h.run hb
  exact ⟨i, ⟨hword, hwf, hbound⟩, hb, howns, h.delay, hinv⟩

/-- The running command is the one in CMDR. -/
theorem DeviceInv.running_of_decode {i : Instr} {s : State} (h : DeviceInv s) (hb : s.busy = true)
    (hi : decode s.cmdr = .ok i) : Accepted i s ∧ Running i s := by
  obtain ⟨j, ha, hrun⟩ := h.running hb
  have hij : j = i := by simpa [hi] using ha.word.symm
  exact hij ▸ ⟨ha, hrun⟩

theorem RegInv.deviceInv_of_waiting {s : State} (h : RegInv s) (hw : s.waiting) : DeviceInv s := by
  obtain ⟨hb, hst, hd⟩ := hw
  exact { h with
    sums := ⟨h.sums.1, h.sums.2, h.accs⟩
    idle := by simp [hb, hst]
    delay := fun hne => absurd hd hne
    run := by simp [hb] }

theorem RegInv.deviceInv_of_running {i : Instr} {s : State} (h : RegInv s) (ha : Accepted i s)
    (hr : Running i s) : DeviceInv s :=
  { h with
    sums := ⟨h.sums.1, h.sums.2, h.accs⟩
    idle := by simp [hr.busy, ownsState_ne_idle hr.owns]
    delay := hr.delay
    run := fun _ => ⟨i, ha.word, hr.owns, ha.wf, ha.bound, hr.inv⟩ }

/-! ## Reset, a bad word, acceptance -/

theorem deviceInv_resetOf {c : Config} (hc : c.wf = true) (k n : Nat) (env : List PortIn) :
    DeviceInv (State.resetOf c k n env) where
  cfg := hc
  buf := rfl
  inside := by simp [State.resetOf]
  len := Nat.zero_le _
  sums := by simp [State.resetOf]
  byteIdx := Nat.zero_le _
  idle := by simp [State.resetOf]
  delay := by simp [State.resetOf]
  err := by simp [State.resetOf]
  run := by simp [State.resetOf]

/-- Settles O49: the configuration of log 2 is legal. -/
theorem deviceInvHoldsAtReset : Obligations.DeviceInvHoldsAtReset := deviceInv_resetOf rfl 0 0 []

/-- The end of a tick touches nothing that the invariant speaks of. -/
theorem DeviceInv.endTick {s : State} (h : DeviceInv s) : DeviceInv s.endTick :=
  ⟨h.cfg, h.buf, h.inside, h.len, h.sums, h.byteIdx, h.idle, h.delay, h.err, h.run⟩

/-- The error codes are 1 to 4 (R181). -/
theorem cmdErrCode_range (e : CmdErr) : e.code ≠ 0 ∧ e.code.toNat ≤ 4 := by cases e <;> decide

theorem DeviceInv.cmdError {s : State} (h : DeviceInv s) (e : CmdErr) : DeviceInv (s.cmdError e) := by
  obtain ⟨hne, hle⟩ := cmdErrCode_range e
  obtain ⟨hiff, h4⟩ := h.err
  refine ⟨h.cfg, h.buf, h.inside, h.len, h.sums, h.byteIdx, h.idle, h.delay, ?_, h.run⟩
  cases he : s.err <;> simp_all [State.cmdError]

theorem ownsState_firstState (i : Instr) : ownsState i (firstState i) = true := by cases i <;> rfl

/-- What holds while a command runs holds at its acceptance. -/
theorem runInv_latch {s : State} (hd : s.dlyCnt = 0) (i : Instr) : runInv (s.latch i) i := by
  cases i with
  | txf m => simp [runInv, txfInv, firstState, hd]
  | txa a => simp [runInv, txaInv, firstState, hd]
  | rxf => exact .inl rfl
  | rxa => exact .inl rfl
  | clr | blds => simp [runInv, bufCap]
  | vfy => exact Nat.zero_le _
  | _ => trivial

theorem DeviceInv.accept {s : State} (h : DeviceInv s) (hb : s.busy = false) (i : Instr) :
    DeviceInv (s.accept i) := by
  obtain ⟨-, -, hd⟩ := h.waiting hb
  rcases s.accept_cases i with ⟨-, -, he⟩ | ⟨-, -, he⟩ | ⟨hbound, hrange, he⟩ <;> rw [he]
  · exact h.cmdError _
  · exact h.cmdError _
  · refine RegInv.deviceInv_of_running (i := i) { h.regInv with accs := by simp } ?_ ?_
    · exact ⟨decode_encode i, inRange_eq_wf s.cfg i ▸ hrange, hbound⟩
    · exact ⟨rfl, ownsState_firstState i, fun hne => absurd hd hne, runInv_latch hd i⟩

/-! ## The registers' part: one rule per kind of write -/

theorem RegInv.putByte {s : State} (h : RegInv s) {i : Nat} (hi : i < bufCap s.cfg) (v : Byte) :
    RegInv (s.putByte i v) :=
  { h with
    buf := Memory.wf_store i v h.buf
    inside := fun c hc => by
      rcases Memory.mem_store hc with rfl | hc
      · exact hi
      · exact h.inside c hc }

theorem csumStep_le (p : Byte × Byte) (b : Byte) :
    (csumStep p b).1.toNat ≤ 254 ∧ (csumStep p b).2.toNat ≤ 254 :=
  ⟨sumMod255_le _ _, sumMod255_le _ _⟩

theorem payloadCap_le {c : Config} (h : c.wf = true) : c.payloadCap ≤ 252 := by
  simp only [Config.wf, Bool.and_eq_true, decide_eq_true_eq] at h
  omega

/-- A hold takes at least one tick (R5, R9). -/
theorem holdTicks_pos {c : Config} (h : c.wf = true) : 0 < holdTicks c := by
  simp only [Config.wf, Bool.and_eq_true, decide_eq_true_eq] at h
  exact Nat.mul_pos (by omega) (by omega)

theorem settleTicks_le (c : Config) : settleTicks c ≤ holdTicks c :=
  Nat.mul_le_mul_right _ (Nat.div_le_self _ _)

/-! ## A tick of a running command

After a tick the command is done, or it runs on in one of its states. -/

/-- The command is done, or it runs on. -/
def Continues (i : Instr) (t : State) : Prop := t.waiting ∨ Running i t

/-- `done` with no delay pending leaves a core that waits. -/
theorem continues_done {i : Instr} {s : State} (hd : s.dlyCnt = 0) : Continues i s.done := .inl ⟨rfl, rfl, hd⟩

/-- A command runs on in a state of its own with no delay pending. -/
theorem continues_of_noDelay {i : Instr} {t : State} (hb : t.busy = true) (ho : ownsState i t.st = true)
    (hd : t.dlyCnt = 0) (hi : runInv t i) : Continues i t :=
  .inr ⟨hb, ho, fun hne => absurd hd hne, hi⟩

/-- A command runs on in a delay of one of its states. -/
theorem continues_of_delay {i : Instr} {t : State} (hb : t.busy = true) (ho : ownsState i t.st = true)
    (hs : delayState t.st = true) (hd : t.dlyCnt ≤ 2 * holdTicks t.cfg) (hi : runInv t i) : Continues i t :=
  .inr ⟨hb, ho, fun _ => ⟨hs, hd⟩, hi⟩

/-- The word in CMDR and what its checks established stay. -/
theorem Accepted.microOp {i : Instr} {s t : State} (ha : Accepted i s) (h : microOp i s = .next t) :
    Accepted i t := by
  have hw := microOp_writesOnly h
  cases i <;> rw [hw]
  case bind => exact ⟨ha.word, ha.wf, by simp [isLineCommand]⟩
  all_goals exact ⟨ha.word, ha.wf, ha.bound⟩

theorem Accepted.countDown {i : Instr} {s : State} (ha : Accepted i s) :
    Accepted i (s.countDown (afterDelay i)) := by
  rw [countDown_frame]
  exact ⟨ha.word, ha.wf, ha.bound⟩

/-! ## The codec and system commands -/

/-- Everything one tick of the clearing loop does (R83). -/
theorem clearTick_next {s t : State} (h : clearTick s = .next t) :
    s.loopIdx < bufCap s.cfg ∧
      (s.loopIdx + 1 < bufCap s.cfg ∧ t = { s.putByte s.loopIdx 0 with loopIdx := s.loopIdx + 1 } ∨
        t = (s.putByte s.loopIdx 0).done) := by
  obtain ⟨hi, h⟩ := withIndex_next.mp h
  cases h
  refine ⟨hi, ?_⟩
  split_ifs with hn
  · exact .inl ⟨hn, rfl⟩
  · exact .inr rfl

theorem clearTick_regInv {s t : State} (hr : RegInv s) (h : clearTick s = .next t) : RegInv t := by
  obtain ⟨hi, ⟨-, rfl⟩ | rfl⟩ := clearTick_next h
  · exact { hr.putByte hi 0 with }
  · exact { hr.putByte hi 0 with }

/-- The clearing loop of CLR and BLDS goes on below BUF_CAP. -/
theorem clearTick_continues {i : Instr} {s t : State} (hrun : Running i s)
    (hi : ∀ u : State, u.loopIdx < bufCap u.cfg → runInv u i) (hd : s.dlyCnt = 0)
    (h : clearTick s = .next t) : Continues i t := by
  obtain ⟨-, ⟨hn, rfl⟩ | rfl⟩ := clearTick_next h
  · exact continues_of_noDelay hrun.busy hrun.owns hd (hi _ hn)
  · exact continues_done hd

theorem clearTick_keeps {i : Instr} {s t : State} (hr : RegInv s) (hrun : Running i s)
    (hi : ∀ u : State, u.loopIdx < bufCap u.cfg → runInv u i) (hd : s.dlyCnt = 0)
    (h : clearTick s = .next t) : RegInv t ∧ Continues i t :=
  ⟨clearTick_regInv hr h, clearTick_continues hrun hi hd h⟩

theorem bldsTick_keeps {s t : State} (hr : RegInv s) (hrun : Running .blds s) (hd : s.dlyCnt = 0)
    (h : bldsTick s = .next t) : RegInv t ∧ Continues .blds t := by
  unfold bldsTick at h
  split_ifs at h
  · have hr' : RegInv { s with len := 0, sum1 := 0, sum2 := 0 } :=
      { hr with len := Nat.zero_le _, sums := ⟨Nat.zero_le _, Nat.zero_le _⟩ }
    exact clearTick_keeps hr' ⟨hrun.busy, hrun.owns, hrun.delay, hrun.inv⟩ (fun _ hu => hu) hd h
  · exact clearTick_keeps hr hrun (fun _ hu => hu) hd h

theorem putbTick_regInv {s : State} (hr : RegInv s) (b : Byte) : RegInv (putbTick b s) := by
  unfold putbTick
  split_ifs with hroom
  · have hcap := payloadCap_le hr.cfg
    have hput : RegInv (s.putByte (putIndex s) b) := hr.putByte (by unfold putIndex bufCap; omega) b
    exact { hput with
      sums := csumStep_le _ _
      len := by
        show (s.len + 1).toNat ≤ s.cfg.payloadCap
        bv_omega }
  · exact hr

theorem bldeTick_regInv {s : State} (hr : RegInv s) (h2 : trailerIndex s 2 < bufCap s.cfg) (d : Byte) :
    RegInv (bldeTick d s) := by
  have h0 : trailerIndex s 0 < bufCap s.cfg := by unfold trailerIndex at *; omega
  have h1 : trailerIndex s 1 < bufCap s.cfg := by unfold trailerIndex at *; omega
  exact ((hr.putByte h0 s.sum1).putByte h1 s.sum2).putByte h2 d

theorem vfyTick_keeps {s t : State} (hr : RegInv s) (hrun : Running .vfy s) (hd : s.dlyCnt = 0)
    (h : vfyTick s = .next t) : RegInv t ∧ Continues .vfy t := by
  unfold vfyTick at h
  split_ifs at h with hlt <;> obtain ⟨-, h⟩ := withIndex_next.mp h <;> cases h
  · exact ⟨{ hr with accs := csumStep_le _ _ }, continues_of_noDelay hrun.busy hrun.owns hd hlt⟩
  · exact ⟨{ hr with sums := hr.accs }, continues_done hd⟩

/-! ## TXF -/

/-- A hold of TXF takes at least one tick (R5, R108). -/
theorem txfHold_next {m : Byte} {s t : State} (hc : s.cfg.wf = true) (h : txfHold m s = .next t) :
    t = { s with dlyCnt := holdTicks s.cfg } := by
  cases h
  rw [State.delay, if_neg (holdTicks_pos hc).ne']

/-- A hold begun in a state of TXF keeps the invariant when that state's part of it holds in the delay. -/
theorem txfHold_keeps {m : Byte} {s t : State} (hr : RegInv s) (hb : s.busy = true)
    (ho : ownsState (.txf m) s.st = true) (hs : delayState s.st = true)
    (hi : txfInv m { s with dlyCnt := holdTicks s.cfg }) (h : txfHold m s = .next t) :
    RegInv t ∧ Continues (.txf m) t := by
  obtain rfl := txfHold_next hr.cfg h
  exact ⟨{ hr with }, continues_of_delay hb ho hs (Nat.le_mul_of_pos_left _ two_pos) hi⟩

/-- The parity of the bit position flips from bit to bit, from 0 back to 7 included (R61). -/
theorem nextBitIdx_parity (b : BitVec 3) : (if b = 0 then 7 else b - 1).getLsbD 0 = !b.getLsbD 0 := by
  revert b
  decide

theorem phaseFits_clockPhase_advanceBit {s : State} (h : phaseFits s) :
    phaseFits s.clockPhase.advanceBit := by
  show (!s.phase) = !(if s.bitIdx = 0 then 7 else s.bitIdx - 1).getLsbD 0
  rw [nextBitIdx_parity, h]

theorem advanceBit_byteIdx_le {n : Nat} {s : State} (h : s.byteIdx.toNat < n) :
    s.advanceBit.byteIdx.toNat ≤ n := by
  rw [State.advanceBit_byteIdx]
  split_ifs <;> bv_omega

/-- The position after a bit of byte `BYTEIDX < m`: still below `m`, or at bit 7 of `m` (R16, R103). -/
theorem advanceBit_position {m : Byte} {s : State} (h : s.byteIdx.toNat < m.toNat) :
    s.advanceBit.byteIdx.toNat < m.toNat ∨ s.advanceBit.byteIdx = m ∧ s.advanceBit.bitIdx = 7 := by
  by_cases h0 : s.bitIdx = 0
  · simp only [State.advanceBit_byteIdx, State.advanceBit_bitIdx, if_pos h0, and_true]
    bv_omega
  · exact .inl (by rwa [State.advanceBit_byteIdx, if_neg h0])

theorem txfUop_keeps {m : Byte} {s t : State} (hr : RegInv s) (hm : m.toNat ≤ bufCap s.cfg)
    (hrun : Running (.txf m) s) (hd : s.dlyCnt = 0) (h : txfUop m s = .next t) :
    RegInv t ∧ Continues (.txf m) t := by
  obtain ⟨hb, ho, -, hinv⟩ := hrun
  have hT : holdTicks s.cfg ≠ 0 := (holdTicks_pos hr.cfg).ne'
  cases hst : s.st <;> simp only [runInv, txfInv, hst] at hinv <;> simp only [txfUop, hst] at h
  case tfDrive =>
    refine txfHold_keeps (s := s.driveBothHigh) { hr with } hb ho (by simp [hst, delayState]) ?_ h
    simp [txfInv, hst, drivesBoth]
  case tfStartLo =>
    refine txfHold_keeps (s := s.writeData false) { hr with } hb ho (by simp [hst, delayState]) ?_ h
    simpa [txfInv, hst, drivesBoth] using hinv
  case tfStartHi =>
    refine txfHold_keeps (s := { s.writeData true with phase := false, byteIdx := 0, bitIdx := 7 })
      { hr with byteIdx := Nat.zero_le _ } hb ho (by simp [hst, delayState]) ?_ h
    simpa [txfInv, hst, drivesBoth, and_assoc] using hinv.imp_right And.left
  case tfBitData =>
    obtain ⟨-, h⟩ := withIndex_next.mp h
    cases h
    obtain ⟨-, hlt, hphase, hclk, hdrv⟩ := hinv
    exact ⟨{ hr with }, continues_of_noDelay hb rfl hd ⟨hphase, hclk, hdrv, .inl hlt⟩⟩
  case tfBitClock =>
    have hlt : s.byteIdx.toNat < m.toNat := by tauto
    obtain ⟨hphase, hclk, hdrv, -⟩ := hinv
    have hbyte := (advanceBit_byteIdx_le (s := s.clockPhase) hlt).trans hm
    refine txfHold_keeps (s := s.clockPhase.advanceBit) { hr with byteIdx := hbyte } hb ho
      (by simp [hst, delayState]) ?_ h
    simp only [txfInv, State.advanceBit_st, State.clockPhase_st, hst]
    exact ⟨phaseFits_clockPhase_advanceBit hphase, (Bool.not_not _).symm, hdrv,
      (advanceBit_position (s := s.clockPhase) hlt).imp_right fun hend => ⟨hT, hend⟩⟩
  case tfForce | tfStopHi =>
    refine txfHold_keeps (s := s.writeData true) { hr with } hb ho (by simp [hst, delayState]) ?_ h
    simpa [txfInv, hst, txfAtEnd, drivesBoth] using hinv
  case tfStopLo =>
    refine txfHold_keeps (s := s.writeData false) { hr with } hb ho (by simp [hst, delayState]) ?_ h
    simpa [txfInv, hst, txfAtEnd, drivesBoth] using hinv
  all_goals simp [ownsState, hst] at ho

/-- The loop test of TXF after a bit or the start condition (R103, R108): the next bit, or the end of the
last byte. -/
theorem txfLoop_continues {m : Byte} {s : State} (hb : s.busy = true) (hd : s.dlyCnt = 0)
    (hfits : phaseFits s) (hclk : s.pads.clkOut = !s.phase) (hdrv : drivesBoth s)
    (hpos : s.byteIdx.toNat < m.toNat ∨ s.byteIdx = m ∧ s.bitIdx = 7) : Continues (.txf m) (txfLoop m s) := by
  unfold txfLoop
  split_ifs with hlt
  · exact continues_of_noDelay hb rfl hd ⟨hd, hlt, hfits, hclk, hdrv⟩
  · obtain ⟨hbyte, hbit⟩ := hpos.resolve_left hlt
    have hphase : s.phase = false := by rw [hfits, hbit]; rfl
    exact continues_of_noDelay hb rfl hd ⟨hbyte, hbit, hphase, hclk.trans (by rw [hphase]; rfl), hdrv⟩

/-- The end of a hold of TXF (R108): the next state's part of the invariant holds. -/
theorem txfAfter_continues {m : Byte} {s : State} (hrun : Running (.txf m) s) (hd : s.dlyCnt ≠ 0) :
    Continues (.txf m) (txfAfter m { s with dlyCnt := 0 }) := by
  obtain ⟨hb, ho, hdelay, hinv⟩ := hrun
  obtain ⟨hs, -⟩ := hdelay hd
  cases hst : s.st <;> simp only [runInv, txfInv, hst] at hinv <;> simp only [txfAfter]
  case tfDrive => exact continues_of_noDelay hb rfl rfl (hinv hd)
  case tfStartLo =>
    obtain ⟨hclk, hdrv⟩ := hinv
    exact continues_of_noDelay hb rfl rfl ⟨hclk, hdrv, fun hne => absurd rfl hne⟩
  case tfStartHi =>
    obtain ⟨hclk, hdrv, hstart⟩ := hinv
    obtain ⟨hbyte, hbit, hphase⟩ := hstart hd
    refine txfLoop_continues hb rfl ?_ (hclk.trans (by simp [hphase])) hdrv ?_
    · show s.phase = !s.bitIdx.getLsbD 0
      rw [hphase, hbit]
      rfl
    · show s.byteIdx.toNat < m.toNat ∨ s.byteIdx = m ∧ s.bitIdx = 7
      simp only [hbyte, hbit, and_true]
      bv_omega
  case tfBitClock =>
    obtain ⟨hfits, hclk, hdrv, hpos⟩ := hinv
    exact txfLoop_continues hb rfl hfits hclk hdrv (hpos.imp_right And.right)
  case tfForce =>
    have ⟨_, _, hphase, _⟩ := hinv
    rw [if_neg (by simp [hphase])]
    exact continues_of_noDelay hb rfl rfl hinv
  case tfStopLo => exact continues_of_noDelay hb rfl rfl hinv
  case tfStopHi => exact continues_done rfl
  all_goals simp [ownsState, delayState, hst] at ho hs

/-! ## TXA -/

/-- A pause of TXA takes at least one tick (R5, R144): the command runs on in it. -/
theorem txaDelay_keeps {a : Byte} {s : State} {n : Nat} (hr : RegInv s) (hb : s.busy = true)
    (ho : ownsState (.txa a) s.st = true) (hs : delayState s.st = true) (hn : n ≠ 0)
    (hle : n ≤ 2 * holdTicks s.cfg) (hi : txaInv { s with dlyCnt := n }) :
    RegInv (s.delay n txaAfter) ∧ Continues (.txa a) (s.delay n txaAfter) := by
  rw [State.delay, if_neg hn]
  exact ⟨{ hr with }, continues_of_delay hb ho hs hle hi⟩

/-- After a bit of TXA: a further bit, whose phase fits, or the end of the eighth (R142, R143; log 12). -/
theorem phaseFits_clockPhase_ackBitDown {s : State} (h : phaseFits s) :
    phaseFits s.clockPhase.ackBitDown ∨
      s.clockPhase.ackBitDown.bitIdx = 0 ∧ s.clockPhase.ackBitDown.phase = false := by
  by_cases h0 : s.bitIdx = 0
  · refine .inr ⟨if_pos h0, ?_⟩
    show (!s.phase) = false
    rw [h, h0]
    rfl
  · left
    show (!s.phase) = !(if s.bitIdx = 0 then 0 else s.bitIdx - 1).getLsbD 0
    have hpar := nextBitIdx_parity s.bitIdx
    rw [if_neg h0] at hpar ⊢
    rw [hpar, h]

theorem txaUop_keeps {a : Byte} {s t : State} (hr : RegInv s) (hrun : Running (.txa a) s)
    (hd : s.dlyCnt = 0) (h : txaUop a s = .next t) : RegInv t ∧ Continues (.txa a) t := by
  obtain ⟨hb, ho, -, hinv⟩ := hrun
  have hT := holdTicks_pos hr.cfg
  cases hst : s.st <;> simp only [runInv, txaInv, hst] at hinv <;> simp only [txaUop, hst] at h <;> cases h
  case taDrive =>
    refine txaDelay_keeps (s := { s.driveBothHigh with phase := false, bitIdx := 7 }) { hr with } hb ho
      (by simp [hst, delayState]) (by omega) le_rfl ?_
    simp [txaInv, hst, drivesBoth]
  case taBitData =>
    obtain ⟨hfits, hclk, hdrv⟩ := hinv
    exact ⟨{ hr with }, continues_of_noDelay hb rfl hd ⟨hclk, hdrv, .inl hfits⟩⟩
  case taBitClock =>
    obtain ⟨hclk, hdrv, hfits⟩ := hinv
    replace hfits := hfits.resolve_right fun hend => hend.1 hd
    refine txaDelay_keeps (s := s.clockPhase.ackBitDown) { hr with } hb ho (by simp [hst, delayState]) hT.ne'
      (Nat.le_mul_of_pos_left _ two_pos) ?_
    simp only [txaInv, State.ackBitDown_st, State.clockPhase_st, hst]
    exact ⟨(Bool.not_not _).symm, hdrv,
      (phaseFits_clockPhase_ackBitDown hfits).imp_right fun hend => ⟨hT.ne', hend⟩⟩
  case taRestore => exact ⟨{ hr with }, continues_done hd⟩
  all_goals simp [ownsState, hst] at ho

/-- The end of a pause of TXA (R144; log 12): the next state's part of the invariant holds. -/
theorem txaAfter_continues {a : Byte} {s : State} (hrun : Running (.txa a) s) (hd : s.dlyCnt ≠ 0) :
    Continues (.txa a) (txaAfter { s with dlyCnt := 0 }) := by
  obtain ⟨hb, ho, hdelay, hinv⟩ := hrun
  obtain ⟨hs, -⟩ := hdelay hd
  cases hst : s.st <;> simp only [runInv, txaInv, hst] at hinv <;> simp only [txaAfter]
  case taDrive =>
    obtain ⟨hbit, hphase, hclk, hdrv⟩ := hinv hd
    refine continues_of_noDelay hb rfl rfl ⟨?_, hclk.trans (by simp [hphase]), hdrv⟩
    show s.phase = !s.bitIdx.getLsbD 0
    rw [hphase, hbit]
    rfl
  case taBitClock =>
    obtain ⟨hclk, hdrv, hfits⟩ := hinv
    split_ifs with hend
    · obtain ⟨hbit, hphase⟩ := hend
      exact continues_of_noDelay hb rfl rfl ⟨hbit, hphase, hclk.trans (by simp [hphase]), hdrv⟩
    · exact continues_of_noDelay hb rfl rfl ⟨hfits.resolve_right fun h => hend h.2, hclk, hdrv⟩
  all_goals simp [ownsState, delayState, hst] at ho hs

/-! ## RXF and RXA -/

/-- RXF runs on in a state after its entry, whose part of the invariant the entry established (R121). -/
theorem rxf_continues {s : State} {q : Seq} (hb : s.busy = true) (hd : s.dlyCnt = 0)
    (hq : ownsState .rxf q = true)
    (hi : releasedBoth s ∧ s.frameEnd = false ∧ s.ovf = false ∧ s.short = false ∧
      s.byteIdx.toNat < bufCap s.cfg) : Continues .rxf (s.goto q) :=
  continues_of_noDelay hb hq hd (.inr hi)

/-- The payload length after a frame of at most BUF_CAP bytes is at most PAYLOAD_CAP (R12, R130). -/
theorem rxfFinish_regInv {s : State} (hr : RegInv s) : RegInv (rxfFinish s) := by
  have hbyte := hr.byteIdx
  refine { hr with len := ?_ }
  show (if 3 ≤ s.byteIdx.toNat then s.byteIdx - 3 else 0).toNat ≤ s.cfg.payloadCap
  unfold bufCap at hbyte
  split_ifs with h3
  · bv_omega
  · exact Nat.zero_le _

theorem rxfGuard_keeps {s : State} (hr : RegInv s) (hb : s.busy = true) (hd : s.dlyCnt = 0)
    (hi : releasedBoth s ∧ s.frameEnd = false ∧ s.ovf = false ∧ s.short = false) :
    RegInv (rxfGuard s) ∧ Continues .rxf (rxfGuard s) := by
  obtain ⟨hrel, hfe, hovf, hshort⟩ := hi
  unfold rxfGuard
  split_ifs with hcap
  · exact ⟨rxfFinish_regInv (s := { s with frameEnd := true, ovf := true }) { hr with }, continues_done hd⟩
  · exact ⟨{ hr with }, rxf_continues hb hd rfl ⟨hrel, hfe, hovf, hshort, Nat.lt_of_not_le hcap⟩⟩

theorem rxfDecide_keeps {s t : State} (hr : RegInv s) (hb : s.busy = true) (hd : s.dlyCnt = 0)
    (hi : releasedBoth s ∧ s.frameEnd = false ∧ s.ovf = false ∧ s.short = false)
    (h : rxfDecide s = .next t) : RegInv t ∧ Continues .rxf t := by
  unfold rxfDecide at h
  split_ifs at h
  · cases h
    exact ⟨rxfFinish_regInv (s := { s with frameEnd := true }) { hr with }, continues_done hd⟩
  · obtain ⟨hidx, h⟩ := withIndex_next.mp h
    cases h
    have hput : RegInv (s.saveEdge.putBit (positionIndex s) s.bitIdx s.datCurr) :=
      RegInv.putByte (s := s.saveEdge) { hr with } hidx _
    exact rxfGuard_keeps { hput with byteIdx := advanceBit_byteIdx_le hidx } hb hd hi

/-- The settle delay is at most one hold; without one RXF moves on at once (R126). -/
theorem rxfSettle_keeps {s : State} (hr : RegInv s) (hb : s.busy = true) (hd : s.dlyCnt = 0)
    (hi : releasedBoth s ∧ s.frameEnd = false ∧ s.ovf = false ∧ s.short = false ∧
      s.byteIdx.toNat < bufCap s.cfg) : RegInv (rxfSettle s) ∧ Continues .rxf (rxfSettle s) := by
  have hle := settleTicks_le s.cfg
  unfold rxfSettle
  rcases (s.goto .rfSettle).delay_cases (settleTicks s.cfg) rxfAfter with ⟨-, he⟩ | ⟨-, he⟩ <;> rw [he]
  · exact ⟨{ hr with }, rxf_continues hb hd rfl hi⟩
  · refine ⟨{ hr with }, continues_of_delay hb rfl rfl ?_ (.inr hi)⟩
    show settleTicks s.cfg ≤ 2 * holdTicks s.cfg
    omega

theorem rxfUop_keeps {s t : State} (hr : RegInv s) (hrun : Running .rxf s) (hd : s.dlyCnt = 0)
    (h : rxfUop s = .next t) : RegInv t ∧ Continues .rxf t := by
  obtain ⟨hb, ho, -, hinv⟩ := hrun
  have hs : RegInv s.sample2 := { hr with }
  simp only [runInv, rxfInv] at hinv
  cases hst : s.st <;> simp only [hst, reduceCtorEq, false_or] at hinv <;> simp only [rxfUop, hst] at h
  case rfSample =>
    obtain ⟨hrel, hfe, hovf, hshort, -⟩ := hinv
    exact rxfDecide_keeps hs hb hd ⟨hrel, hfe, hovf, hshort⟩ h
  all_goals cases h
  case rfRelease =>
    exact ⟨{ hr with byteIdx := Nat.zero_le _ },
      rxf_continues hb hd rfl ⟨⟨rfl, rfl⟩, rfl, rfl, rfl, Nat.succ_pos _⟩⟩
  case rfSeed => exact ⟨{ hr with }, rxf_continues hb hd rfl hinv⟩
  case rfAwaitData | rfAwaitClock =>
    split_ifs
    · exact ⟨{ hr with }, rxf_continues hb hd rfl hinv⟩
    · exact ⟨hs, continues_of_noDelay hb ho hd (.inr hinv)⟩
  case rfEdgeWait =>
    split_ifs
    · exact rxfSettle_keeps hs hb hd hinv
    · exact ⟨hs, continues_of_noDelay hb ho hd (.inr hinv)⟩
  case rfSettle =>
    simp only [rxfAfter, hst]
    exact ⟨{ hr with }, rxf_continues hb hd rfl hinv⟩
  all_goals simp [ownsState, hst] at ho

theorem rxfAfter_continues {s : State} (hrun : Running .rxf s) (hd : s.dlyCnt ≠ 0) :
    Continues .rxf (rxfAfter { s with dlyCnt := 0 }) := by
  obtain ⟨hb, ho, hdelay, hinv⟩ := hrun
  obtain ⟨hs, -⟩ := hdelay hd
  cases hst : s.st <;> simp only [rxfAfter]
  case rfSettle =>
    exact rxf_continues hb rfl rfl (hinv.resolve_left (by simp [hst]))
  all_goals simp [ownsState, delayState, hst] at ho hs

theorem rxaUop_keeps {s t : State} (hr : RegInv s) (hrun : Running .rxa s) (hd : s.dlyCnt = 0)
    (h : rxaUop s = .next t) : RegInv t ∧ Continues .rxa t := by
  obtain ⟨hb, ho, -, hinv⟩ := hrun
  simp only [runInv, rxaInv] at hinv
  cases hst : s.st <;> simp only [hst, reduceCtorEq, false_or] at hinv <;> simp only [rxaUop, hst] at h <;>
    cases h
  case raRelease => exact ⟨{ hr with }, continues_of_noDelay hb rfl hd (.inr ⟨rfl, rfl⟩)⟩
  case raSeed => exact ⟨{ hr with }, continues_of_noDelay hb rfl hd (.inr hinv)⟩
  case raAwaitClock =>
    unfold rxaStore
    dsimp only
    split_ifs
    · exact ⟨{ hr with }, continues_done hd⟩
    · exact ⟨{ hr with }, continues_of_noDelay hb ho hd (.inr hinv)⟩
    · exact ⟨{ hr with }, continues_of_noDelay hb ho hd (.inr hinv)⟩
  all_goals simp [ownsState, hst] at ho

/-! ## Every command -/

/-- A command without line states stands in EXEC (R22). -/
theorem Running.st_exec {i : Instr} {s : State} (h : Running i s) (hi : isLineCommand i = false) :
    s.st = .exec := by
  have ho := h.owns
  cases i <;> simp_all [ownsState, isLineCommand]

/-- A micro-operation keeps the registers' part of the invariant, and the command is done or runs on. -/
theorem microOp_invariant {i : Instr} {s t : State} (hr : RegInv s) (ha : Accepted i s) (hrun : Running i s)
    (hd : s.dlyCnt = 0) (h : microOp i s = .next t) : RegInv t ∧ Continues i t := by
  have hwf := ha.wf
  have hexec := hrun.st_exec
  cases i <;> dsimp only [microOp] at h
  case txf m => exact txfUop_keeps hr (of_decide_eq_true hwf) hrun hd h
  case txa a => exact txaUop_keeps hr hrun hd h
  case rxf => exact rxfUop_keeps hr hrun hd h
  case rxa => exact rxaUop_keeps hr hrun hd h
  all_goals
    replace hexec := hexec rfl
    rw [inExec_exec hexec] at h
  case vfy => exact vfyTick_keeps hr hrun hd h
  case clr => exact clearTick_keeps hr hrun (fun _ hu => hu) hd h
  case blds => exact bldsTick_keeps hr hrun hd h
  case blde d =>
    obtain ⟨h2, h⟩ := withIndex_next.mp h
    cases h
    exact ⟨{ bldeTick_regInv hr h2 d with }, continues_done hd⟩
  case getb k =>
    obtain ⟨-, h⟩ := withIndex_next.mp h
    cases h
    exact ⟨{ hr with }, continues_done hd⟩
  all_goals cases h
  case putb b => exact ⟨{ putbTick_regInv hr b with }, continues_done (by rw [putbTick_frame]; exact hd)⟩
  case setl n => exact ⟨{ hr with len := of_decide_eq_true hwf }, continues_done hd⟩
  case nop | bind => exact ⟨{ hr with }, continues_done hd⟩

/-- While a delay runs the invariant of the state does not depend on how much of it is left. -/
theorem runInv_dlyCnt {i : Instr} {s : State} {n : Nat} (hi : runInv s i) (hd : s.dlyCnt ≠ 0) (hn : n ≠ 0) :
    runInv { s with dlyCnt := n } i := by
  cases i
  case txf m => simpa [runInv, txfInv, txfAtEnd, drivesBoth, phaseFits, hd, hn] using hi
  case txa a => simpa [runInv, txaInv, drivesBoth, phaseFits, hd, hn] using hi
  all_goals exact hi

/-- Only TXF, TXA and RXF run a delay (R21, R22). -/
theorem Running.runs_delay {i : Instr} {s : State} (hrun : Running i s) (hd : s.dlyCnt ≠ 0) :
    (∃ m, i = .txf m) ∨ (∃ a, i = .txa a) ∨ i = .rxf := by
  obtain ⟨hs, -⟩ := hrun.delay hd
  have hexec := hrun.st_exec
  cases i
  case txf m => exact .inl ⟨m, rfl⟩
  case txa a => exact .inr (.inl ⟨a, rfl⟩)
  case rxf => exact .inr (.inr rfl)
  case rxa =>
    have ho := hrun.owns
    cases hst : s.st <;> simp [ownsState, delayState, hst] at ho hs
  all_goals simp [hexec rfl, delayState] at hs

/-- At the end of a delay the command is done or runs on. -/
theorem afterDelay_continues {i : Instr} {s : State} (hrun : Running i s) (hd : s.dlyCnt ≠ 0) :
    Continues i (afterDelay i { s with dlyCnt := 0 }) := by
  obtain ⟨m, rfl⟩ | ⟨a, rfl⟩ | rfl := hrun.runs_delay hd
  · exact txfAfter_continues hrun hd
  · exact txaAfter_continues hrun hd
  · exact rxfAfter_continues hrun hd

theorem countDown_invariant {i : Instr} {s : State} (hr : RegInv s) (hrun : Running i s)
    (hd : s.dlyCnt ≠ 0) :
    RegInv (s.countDown (afterDelay i)) ∧ Continues i (s.countDown (afterDelay i)) := by
  refine ⟨?_, ?_⟩
  · rw [countDown_frame]
    exact { hr with }
  · rcases s.countDown_cases (afterDelay i) with ⟨-, he⟩ | ⟨h1, he⟩ <;> rw [he]
    · exact afterDelay_continues hrun hd
    · obtain ⟨hs, hle⟩ := hrun.delay hd
      exact continues_of_delay hrun.busy hrun.owns hs ((Nat.sub_le _ _).trans hle)
        (runInv_dlyCnt hrun.inv hd (by omega))

/-- A tick of the running command keeps the invariant. -/
theorem exec_running_deviceInv {i : Instr} {s t : State} (hr : RegInv s) (ha : Accepted i s)
    (hrun : Running i s) (h : exec i s = .next t) : DeviceInv t := by
  rcases exec_busy_next hrun.busy h with ⟨hd, hu⟩ | ⟨hd, rfl⟩
  · obtain ⟨hr', hw | hrun'⟩ := microOp_invariant hr ha hrun hd hu
    · exact hr'.deviceInv_of_waiting hw
    · exact hr'.deviceInv_of_running (ha.microOp hu) hrun'
  · obtain ⟨hr', hw | hrun'⟩ := countDown_invariant hr hrun hd
    · exact hr'.deviceInv_of_waiting hw
    · exact hr'.deviceInv_of_running ha.countDown hrun'

/-- Settles O50: reset, acceptance, a command error, a micro-operation and a tick of a delay each keep the
invariant. -/
theorem stepKeepsDeviceInv : Obligations.StepKeepsDeviceInv := by
  intro s t hs h
  rcases step_next h with ⟨-, rfl⟩ | ⟨i, u, hw, hu, rfl⟩ | ⟨e, -, rfl⟩ | ⟨-, rfl⟩
  · exact (deviceInv_resetOf hs.cfg _ _ _).endTick
  · refine DeviceInv.endTick ?_
    cases hb : s.busy
    · rw [exec_idle i hb] at hu
      cases hu
      exact hs.accept hb i
    · obtain ⟨ha, hrun⟩ := hs.running_of_decode hb (decode_cmdr_of_work hb hw)
      exact exec_running_deviceInv hs.regInv ha hrun hu
  · exact (hs.cmdError e).endTick
  · exact hs.endTick

/-! ## Runs -/

/-- What every step keeps holds after every run. -/
theorem runs_keeps {P : State → Prop} (hP : ∀ s t, P s → step s = .next t → P t) {n : Nat} {s t : State}
    (hs : P s) (h : runs n s = .next t) : P t := by
  induction n generalizing s with
  | zero =>
    cases h
    exact hs
  | succ n ih =>
    unfold runs at h
    split at h
    case h_1 u hu => exact ih (hP s u hs hu) h
    all_goals cases h

theorem DeviceInv.st_ne_tfNorm {s : State} (h : DeviceInv s) : s.st ≠ .tfNorm := by
  cases hb : s.busy
  · obtain ⟨-, hst, -⟩ := h.waiting hb
    simp [hst]
  · obtain ⟨i, -, hrun⟩ := h.running hb
    exact ownsState_ne_tfNorm hrun.owns

/-- Settles O52: the ranges are fields of the invariant, which every run keeps. -/
theorem registerRangesHoldInEveryRun : Obligations.RegisterRangesHoldInEveryRun := by
  intro n s t hs h
  have ht : DeviceInv t := runs_keeps stepKeepsDeviceInv hs h
  obtain ⟨hsum1, hsum2, -⟩ := ht.sums
  exact ⟨ht.len, hsum1, hsum2, ht.byteIdx, ht.idle.symm, ht.st_ne_tfNorm⟩

/-! ## The register-writer table (R32) -/

/-- The rows of the table of R32, from `s` to `t` in a tick of the command with opcode `op`. -/
structure TableKept (op : BitVec 4) (s t : State) : Prop where
  buf : op ∉ [0x2#4, 0x3#4, 0x4#4, 0x5#4, 0xB#4] → t.buf = s.buf
  len : op ∉ [0x3#4, 0x4#4, 0x6#4, 0xB#4] → t.len = s.len
  sums : op ∉ [0x3#4, 0x4#4, 0x7#4] → t.sum1 = s.sum1 ∧ t.sum2 = s.sum2
  edge : op ∉ [0xB#4, 0xC#4] →
    t.sigPrev = s.sigPrev ∧ t.datPrev = s.datPrev ∧ t.sigCurr = s.sigCurr ∧ t.datCurr = s.datCurr
  flags : op ∉ [0xB#4] → t.frameEnd = s.frameEnd ∧ t.ovf = s.ovf ∧ t.short = s.short
  byteIdx : op ∉ [0x9#4, 0xB#4] → t.byteIdx = s.byteIdx
  bitIdx : op ∉ [0x9#4, 0xA#4, 0xB#4, 0xC#4] → t.bitIdx = s.bitIdx
  phase : op ∉ [0x9#4, 0xA#4] → t.phase = s.phase
  ackv : op ∉ [0xC#4] → t.ackv = s.ackv
  dout : op ∉ [0x8#4] → t.dout = s.dout
  latches : op ∉ [0x9#4, 0xA#4] → t.pads.clkOut = s.pads.clkOut ∧ t.pads.datOut = s.pads.datOut
  directions : op ∉ [0x9#4, 0xA#4, 0xB#4, 0xC#4] → t.pads.clkOe = s.pads.clkOe ∧ t.pads.datOe = s.pads.datOe
  csok : op ∉ [0x7#4] → t.csok = s.csok
  bound : op ∉ [0x1#4] → t.bound = s.bound
  dlyCnt : op ∉ [0x9#4, 0xA#4, 0xB#4] → t.dlyCnt = s.dlyCnt

/-- The frame of each command's micro-operations is its column of the table. -/
theorem microOp_tableKept {i : Instr} {s t : State} (h : microOp i s = .next t) :
    TableKept (opField (encode i)) s t := by
  have hw := microOp_writesOnly h
  cases i <;> rw [hw]
  all_goals constructor <;> simp [encode]

/-- A delay writes DLYCNT alone of the registers in the table, and only TXF, TXA and RXF run one. -/
theorem countDown_tableKept {i : Instr} {s : State} (hrun : Running i s) (hd : s.dlyCnt ≠ 0) :
    TableKept (opField (encode i)) s (s.countDown (afterDelay i)) := by
  have hdly : opField (encode i) ∈ [0x9#4, 0xA#4, 0xB#4] := by
    obtain ⟨m, rfl⟩ | ⟨a, rfl⟩ | rfl := hrun.runs_delay hd <;> simp [encode]
  rw [countDown_frame]
  constructor
  case dlyCnt => exact fun hop => absurd hdly hop
  all_goals simp

/-- Settles O48: the command in CMDR makes one tick, and either kind of tick keeps the rows of the table. -/
theorem commandsWriteOnlyTheirRegisters : Obligations.CommandsWriteOnlyTheirRegisters := by
  intro s t hs hb hr h
  obtain ⟨i, u, hword, hu, rfl⟩ := step_busy_next hr hb h
  obtain ⟨-, hrun⟩ := hs.running_of_decode hb hword
  have hk : TableKept (opField (encode i)) s u := by
    rcases exec_busy_next hb hu with ⟨-, hm⟩ | ⟨hd, rfl⟩
    · exact microOp_tableKept hm
    · exact countDown_tableKept hrun hd
  obtain ⟨hcfg, hresets, -⟩ := exec_keeps hu
  obtain ⟨hcmdr, herr, hcode⟩ := exec_busy_keeps hb hu
  dsimp only
  rw [opField_of_decode hword]
  exact ⟨fun hop => State.byteAt_congr (hk.buf hop) hcfg hresets, hk.len, hk.sums, hk.edge, hk.flags,
    hk.byteIdx, hk.bitIdx, hk.phase, hk.ackv, hk.dout, hk.latches, hk.directions, hk.csok, hk.bound,
    hk.dlyCnt, herr, hcode, hcmdr⟩

end Sys2Proof.Machine

/-! ## Two rules of the shared operations (spec/10_state.md R21, spec/20_memory.md R42) -/

namespace Sys2Proof.Machine

/-- Without a pending delay a busy core executes the command's micro-operation. -/
theorem exec_uop (i : Instr) {s : State} (hb : s.busy = true) (hd : s.dlyCnt = 0) :
    exec i s = microOp i s := by
  rw [exec_eq_commandTick, commandTick_uop hb hd]

theorem withIndex_of_lt {s : State} {i : Nat} (h : i < bufCap s.cfg) (k : Answer) : withIndex s i k = k :=
  if_pos h

end Sys2Proof.Machine

/-! ## The level of a line (spec/20_memory.md R47) -/

namespace Sys2Proof.Machine

/-- The direction bit of a device for a line (R20). -/
def Pads.oe (p : Pads) : Line → Bool
  | .clock => p.clkOe
  | .data => p.datOe

/-- The level latch of a device for a line (R20). -/
def Pads.out (p : Pads) : Line → Level
  | .clock => p.clkOut
  | .data => p.datOut

/-- A device drives a line exactly when its direction bit for it is 1, and then at its latch. -/
theorem Pads.drives_eq_some {p : Pads} {l : Line} {v : Level} :
    p.drives l = some v ↔ p.oe l = true ∧ p.out l = v := by
  cases l <;> simp [Pads.drives, Pads.oe, Pads.out]

theorem mem_drivers {l : Line} {ps : List Pads} {v : Level} :
    v ∈ drivers l ps ↔ ∃ p ∈ ps, p.oe l = true ∧ p.out l = v := by
  simp only [drivers, List.mem_filterMap, Pads.drives_eq_some]

theorem resolve_released {vs : List Level} (h : ∀ v, v ∉ vs) : resolve vs = .released := by
  simp [resolve_eq, h]

theorem resolve_agreed {vs : List Level} {v : Level} (h : v ∈ vs) (hv : ∀ w ∈ vs, w = v) :
    resolve vs = .agreed v := by
  have hn : (!v) ∉ vs := fun hm => Bool.not_ne_self v (hv _ hm)
  cases v <;> simp_all [resolve_eq]

theorem resolve_contention {vs : List Level} {v : Level} (h : v ∈ vs) (hn : (!v) ∈ vs) :
    resolve vs = .contention := by
  cases v <;> simp_all [resolve_eq]

section

variable {s : State} (who : Sampler) (l : Line) {v : Level}

/-- R47 (a): a line without a driver reads HIGH. -/
theorem State.levelAs_released (h : ∀ p ∈ s.pads :: s.port.peers, p.oe l = false) :
    s.levelAs who l = true := by
  have hnone : ∀ v, v ∉ drivers l (s.pads :: s.port.peers) := fun v hv => by
    obtain ⟨p, hp, hoe, -⟩ := mem_drivers.mp hv
    simp [h p hp] at hoe
  rw [State.levelAs, State.busLevel, resolve_released hnone, BusLevel.sampled]

/-- R47 (b): a line whose drivers agree reads their level. -/
theorem State.levelAs_agreed (h : ∃ p ∈ s.pads :: s.port.peers, p.oe l = true)
    (hv : ∀ p ∈ s.pads :: s.port.peers, p.oe l = true → p.out l = v) : s.levelAs who l = v := by
  have hmem : v ∈ drivers l (s.pads :: s.port.peers) := by
    obtain ⟨p, hp, hoe⟩ := h
    exact mem_drivers.mpr ⟨p, hp, hoe, hv p hp hoe⟩
  have hall : ∀ w ∈ drivers l (s.pads :: s.port.peers), w = v := fun w hw => by
    obtain ⟨p, hp, hoe, rfl⟩ := mem_drivers.mp hw
    exact hv p hp hoe
  rw [State.levelAs, State.busLevel, resolve_agreed hmem hall, BusLevel.sampled]

/-- R47 (c): a line driven at both levels reads as the free value of the sample (log 7). -/
theorem State.levelAs_contention (h : ∃ p ∈ s.pads :: s.port.peers, p.oe l = true ∧ p.out l = v)
    (hn : ∃ p ∈ s.pads :: s.port.peers, p.oe l = true ∧ p.out l = !v) :
    s.levelAs who l = Config.contendedLevel s.cfg.device who s.draws := by
  rw [State.levelAs, State.busLevel, resolve_contention (mem_drivers.mpr h) (mem_drivers.mpr hn),
    BusLevel.sampled]

end

/-- Settles O45: the three cases of R47, each for both lines. -/
theorem busLevelFollowsDrivers : Obligations.BusLevelFollowsDrivers := by
  intro s who v
  exact ⟨State.levelAs_released who .clock, State.levelAs_released who .data,
    State.levelAs_agreed who .clock, State.levelAs_agreed who .data,
    State.levelAs_contention who .clock, State.levelAs_contention who .data⟩

end Sys2Proof.Machine

/-! ## One instant of the bus (spec/20_memory.md R48, R49) -/

namespace Sys2Proof.Machine

theorem padsOf_cons (n : Node) (ns : List Node) : padsOf (n :: ns) = n.dev.pads :: padsOf ns := rfl

/-- Everything an instant does to the first of the nodes, and what it leaves for the rest. -/
theorem tickNodes_cons_next {ps : List Pads} {n : Node} {ns ns' : List Node} {cs : List Bool}
    (h : tickNodes ps (n :: ns) cs = .next ns') :
    ∃ n' ms', ns' = n' :: ms' ∧
      (cs.headD false = true → n.tick (ps ++ padsOf ns) = .next n') ∧
      (cs.headD false = false → n' = n) ∧
      tickNodes (ps ++ [n.dev.pads]) ns cs.tail = .next ms' := by
  unfold tickNodes at h
  split at h
  case h_1 n' hn =>
    split at h
    case h_1 ms' hms =>
      cases h
      refine ⟨n', ms', rfl, fun hc => ?_, fun hc => ?_, hms⟩
      · rwa [if_pos hc] at hn
      · rw [if_neg (Bool.eq_false_iff.mp hc)] at hn
        cases hn
        rfl
    all_goals cases h
  all_goals cases h

theorem tickNodes_length {ps : List Pads} {ns ns' : List Node} {cs : List Bool}
    (h : tickNodes ps ns cs = .next ns') : ns'.length = ns.length := by
  induction ns generalizing ps cs ns' with
  | nil =>
    cases h
    rfl
  | cons n ns ih =>
    obtain ⟨n', ms', rfl, -, -, hms⟩ := tickNodes_cons_next h
    simp [ih hms]

/-- What an instant does to one node among the others. The nodes ahead of it have had their tick by then,
and it still sees the pads that they had before. -/
theorem tickNodes_at {ps : List Pads} {before after ns' : List Node} {n : Node} {cs : List Bool}
    (h : tickNodes ps (before ++ n :: after) cs = .next ns') :
    ∃ before' n' after', ns' = before' ++ n' :: after' ∧ before'.length = before.length ∧
      after'.length = after.length ∧
      (cs.getD before.length false = true → n.tick (ps ++ padsOf (before ++ after)) = .next n') ∧
      (cs.getD before.length false = false → n' = n) := by
  induction before generalizing ps cs ns' with
  | nil =>
    obtain ⟨n', after', rfl, htick, hstay, hrest⟩ := tickNodes_cons_next h
    have hhead : cs.getD 0 false = cs.headD false := by cases cs <;> rfl
    exact ⟨[], n', after', rfl, rfl, tickNodes_length hrest, hhead ▸ htick, hhead ▸ hstay⟩
  | cons m before ih =>
    obtain ⟨m', ms', rfl, -, -, hrest⟩ := tickNodes_cons_next h
    obtain ⟨before', n', after', rfl, hbefore, hafter, htick, hstay⟩ := ih hrest
    have hnext : cs.getD (before.length + 1) false = cs.tail.getD before.length false := by
      cases cs <;> rfl
    refine ⟨m' :: before', n', after', rfl, congrArg Nat.succ hbefore, hafter, fun hc => ?_, fun hc => ?_⟩
    · simpa [padsOf_cons] using htick (hnext ▸ hc)
    · exact hstay (hnext ▸ hc)

/-- The pads of a device and of the others are the pads of the bus. -/
theorem padsOf_middle (before after : List Node) (n : Node) :
    (n.dev.pads :: padsOf (before ++ after)).Perm (padsOf (before ++ n :: after)) :=
  (List.perm_middle (l₁ := before)).symm.map fun m : Node => m.dev.pads

/-- Every device finds on a line what the line shows for the whole bus (R49). -/
theorem busLevel_seeing (before after : List Node) (n : Node) (l : Line) :
    (n.dev.seeing (padsOf (before ++ after))).busLevel l = netLevel l (before ++ n :: after) :=
  resolve_perm (drivers_perm l (padsOf_middle before after n))

/-- Outside contention a sample does not depend on what is drawn for it (R47). -/
theorem BusLevel.sampled_congr {b : BusLevel} (h : b ≠ .contention) (draw draw' : Level) :
    b.sampled draw = b.sampled draw' := by
  cases b with
  | released | agreed v => rfl
  | contention => exact absurd rfl h

/-- Settles O60: by induction on the devices ahead of the one in question; the line's level does not depend
on the order of the devices. -/
theorem busIsOneMedium : Obligations.BusIsOneMedium := by
  intro before after n
  refine ⟨fun cs ns' h => tickNodes_at (ps := []) h, fun l => ⟨busLevel_seeing before after n l, ?_⟩⟩
  intro hne who draw
  rw [State.levelAs, busLevel_seeing]
  exact BusLevel.sampled_congr hne _ draw

end Sys2Proof.Machine

/-! ## No tick stops a device with the invariant (spec/20_memory.md R42; spec/44_system.md R155) -/

namespace Sys2Proof.Machine

/-- The clearing loop of CLR and BLDS stores inside the buffer (R83). -/
theorem clearTick_answers {s : State} (h : s.loopIdx < bufCap s.cfg) : ∃ t, clearTick s = .next t :=
  ⟨_, withIndex_of_lt h _⟩

theorem bldsTick_answers {s : State} (h : s.loopIdx < bufCap s.cfg) : ∃ t, bldsTick s = .next t := by
  unfold bldsTick
  split_ifs <;> exact clearTick_answers h

/-- The trailer ends inside the buffer, since LEN leaves three bytes of room (R41). -/
theorem RegInv.trailerIndex_lt {s : State} (hr : RegInv s) {k : Nat} (hk : k < 3) :
    trailerIndex s k < bufCap s.cfg := by
  have hlen := hr.len
  unfold trailerIndex bufCap
  omega

/-- VFY reads the payload and the two checksum bytes behind it (R89). -/
theorem vfyTick_answers {s : State} (hr : RegInv s) : ∃ t, vfyTick s = .next t := by
  unfold vfyTick
  split_ifs with hlt
  · exact ⟨_, withIndex_of_lt (hlt.trans (hr.trailerIndex_lt (k := 0) (by decide))) _⟩
  · exact ⟨_, withIndex_of_lt (hr.trailerIndex_lt (by decide)) _⟩

/-- Of the states of TXF only TF_BITDATA reads the buffer, at a byte of the frame (R103). -/
theorem txfUop_answers {m : Byte} {s : State} (hm : m.toNat ≤ bufCap s.cfg) (hi : txfInv m s) :
    ∃ t, txfUop m s = .next t := by
  unfold txfUop
  cases hst : s.st
  case tfBitData =>
    simp only [txfInv, hst] at hi
    obtain ⟨-, hlt, -⟩ := hi
    exact ⟨_, withIndex_of_lt (hlt.trans_le hm) _⟩
  all_goals exact ⟨_, rfl⟩

theorem txaUop_answers (a : Byte) (s : State) : ∃ t, txaUop a s = .next t := by
  unfold txaUop
  cases s.st <;> exact ⟨_, rfl⟩

theorem rxfDecide_answers {s : State} (h : positionIndex s < bufCap s.cfg) : ∃ t, rxfDecide s = .next t := by
  unfold rxfDecide
  split_ifs
  · exact ⟨_, rfl⟩
  · exact ⟨_, withIndex_of_lt h _⟩

/-- Of the states of RXF only RF_SAMPLE stores, below BUF_CAP (R129). -/
theorem rxfUop_answers {s : State} (hi : rxfInv s) : ∃ t, rxfUop s = .next t := by
  unfold rxfUop
  cases hst : s.st
  case rfSample =>
    obtain ⟨-, -, -, -, hlt⟩ := hi.resolve_left (by simp [hst])
    exact rxfDecide_answers (s := s.sample2) hlt
  all_goals exact ⟨_, rfl⟩

theorem rxaUop_answers (s : State) : ∃ t, rxaUop s = .next t := by
  unfold rxaUop
  cases s.st <;> exact ⟨_, rfl⟩

/-- No micro-operation of an accepted command forms an index outside the buffer (R42). -/
theorem microOp_answers {i : Instr} {s : State} (hr : RegInv s) (ha : Accepted i s) (hrun : Running i s) :
    ∃ t, microOp i s = .next t := by
  have hwf := ha.wf
  have hinv := hrun.inv
  have hexec := hrun.st_exec
  cases i <;> dsimp only [microOp]
  case txf m => exact txfUop_answers (of_decide_eq_true hwf) hinv
  case txa a => exact txaUop_answers a s
  case rxf => exact rxfUop_answers hinv
  case rxa => exact rxaUop_answers s
  all_goals rw [inExec_exec (hexec rfl)]
  case clr => exact clearTick_answers hinv
  case blds => exact bldsTick_answers hinv
  case vfy => exact vfyTick_answers hr
  case blde d => exact ⟨_, withIndex_of_lt (hr.trailerIndex_lt (by decide)) _⟩
  case getb k => exact ⟨_, withIndex_of_lt (of_decide_eq_true hwf) _⟩
  all_goals exact ⟨_, rfl⟩

/-- A tick of the running command answers a next state. -/
theorem exec_running_answers {i : Instr} {s : State} (hr : RegInv s) (ha : Accepted i s)
    (hrun : Running i s) : ∃ t, exec i s = .next t := by
  by_cases hd : s.dlyCnt = 0
  · rw [exec_uop i hrun.busy hd]
    exact microOp_answers hr ha hrun
  · exact ⟨_, exec_countDown i hrun.busy hd⟩

/-- With the invariant a tick of the command that the core takes up or runs answers a next state. -/
theorem DeviceInv.exec_answers {i : Instr} {s : State} (hs : DeviceInv s) (hw : s.work = .command i) :
    ∃ t, exec i s = .next t := by
  cases hb : s.busy
  · exact ⟨_, exec_idle i hb⟩
  · obtain ⟨ha, hrun⟩ := hs.running_of_decode hb (decode_cmdr_of_work hb hw)
    exact exec_running_answers hs.regInv ha hrun

/-- CMDR of a busy core holds a command word (R155). -/
theorem DeviceInv.work_ne_stray {s : State} (hs : DeviceInv s) : s.work ≠ .stray := by
  rcases s.work_cases with ⟨-, he⟩ | ⟨-, hb, he⟩ | ⟨-, -, -, he⟩ | ⟨-, -, -, he⟩ <;> rw [he]
  · simp
  · obtain ⟨i, ha, -⟩ := hs.running hb
    simp [ha.word, Machine.running]
  · cases decode s.port.cmd <;> simp [offered]
  · simp

/-- Settles O51: a step stops only on an index outside the buffer or on a stray word in CMDR, and the
invariant excludes both. -/
theorem stepAlwaysAnswersNext : Obligations.StepAlwaysAnswersNext := by
  intro s hs
  rcases step_cases s with ⟨-, he⟩ | ⟨i, hw, he⟩ | ⟨e, -, he⟩ | ⟨-, he⟩ | ⟨hw, -⟩
  · exact ⟨_, he⟩
  · obtain ⟨t, ht⟩ := hs.exec_answers hw
    exact ⟨t.endTick, by rw [he, ht, onNext]⟩
  · exact ⟨_, he⟩
  · exact ⟨_, he⟩
  · exact absurd hw hs.work_ne_stray

end Sys2Proof.Machine

/-! ## RF_SAMPLE without a stop condition (spec/20_memory.md R43; spec/42_receiver.md R128, R129) -/

namespace Sys2Proof.Machine

/-- Reading after a bit write: that bit of that byte, and every other bit as before (R43). -/
theorem State.bitOf_byteAt_putBit (s : State) (i : Nat) (j k : BitVec 3) (v : Level) :
    bitOf ((s.putBit i j v).byteAt i) k = if k = j then v else bitOf (s.byteAt i) k := by
  rw [State.putBit, State.byteAt_putByte, if_pos rfl, bitOf_setBit]

theorem State.byteAt_putBit_of_ne {s : State} {i a : Nat} (h : a ≠ i) (j : BitVec 3) (v : Level) :
    (s.putBit i j v).byteAt a = s.byteAt a := by
  rw [State.putBit, State.byteAt_putByte, if_neg h]

theorem stopCondition_iff {s : State} :
    stopCondition s = true ↔
      s.datCurr = false ∧ s.datPrev = true ∧ s.sigPrev = true ∧ s.sigCurr = true := by
  simp [stopCondition, and_assoc]

/-- The state of RXF after a stored bit and before the overflow guard (R129). -/
def rxfStored (s : State) : State := (s.saveEdge.putBit (positionIndex s) s.bitIdx s.datCurr).advanceBit

theorem rxfStore_eq (s : State) : rxfStore s = rxfGuard (rxfStored s) := rfl

/-- A sample that is no stop condition is stored (R128, R129). -/
theorem exec_rxf_sample_store {s : State} (hat : s.atUop .rfSample) (hidx : s.byteIdx.toNat < bufCap s.cfg)
    (hstop : stopCondition s.sample2 ≠ true) :
    exec .rxf s = .next (rxfGuard (rxfStored s.sample2)) := by
  obtain ⟨hb, hst, hd⟩ := hat
  have hdecide : microOp .rxf s = rxfDecide s.sample2 := by simp only [microOp, rxfUop, hst]
  rw [exec_uop .rxf hb hd, hdecide, rxfDecide, if_neg hstop, ← rxfStore_eq]
  exact withIndex_of_lt hidx _

theorem advanceBit_of_ne {s : State} (h : s.bitIdx ≠ 0) :
    s.advanceBit.bitIdx = s.bitIdx - 1 ∧ s.advanceBit.byteIdx = s.byteIdx := ⟨if_neg h, if_neg h⟩

/-- After bit 0 comes bit 7 of the next byte. -/
theorem advanceBit_of_zero {s : State} (h : s.bitIdx = 0) (hlt : s.byteIdx.toNat < 255) :
    s.advanceBit.bitIdx = 7 ∧ s.advanceBit.byteIdx.toNat = s.byteIdx.toNat + 1 := by
  rw [State.advanceBit_bitIdx, State.advanceBit_byteIdx, if_pos h, if_pos h]
  exact ⟨rfl, by bv_omega⟩

/-- Below BUF_CAP the overflow guard lets decoding go on (R129). -/
theorem rxfGuard_of_lt {s : State} (h : s.byteIdx.toNat < bufCap s.cfg) : rxfGuard s = s.goto .rfEdgeWait :=
  if_neg (Nat.not_le.mpr h)

/-- At BUF_CAP it ends the frame, which is no runt (R129, R130). -/
theorem rxfGuard_of_eq {s : State} (h : s.byteIdx.toNat = bufCap s.cfg) :
    rxfGuard s =
      { s with frameEnd := true, ovf := true, len := s.byteIdx - 3, st := .idle, busy := false } := by
  have h3 : 3 ≤ s.byteIdx.toNat := by unfold bufCap at h; omega
  rw [rxfGuard, if_pos h.ge]
  simp only [rxfFinish, State.done, if_pos h3]

/-- The bit and the position after RF_SAMPLE has stored (R43, R129). -/
theorem rxfStored_position {s : State} (hc : s.cfg.wf = true) (hidx : s.byteIdx.toNat < bufCap s.cfg) :
    (s.bitIdx ≠ 0 → (rxfStored s).bitIdx = s.bitIdx - 1 ∧ (rxfStored s).byteIdx = s.byteIdx) ∧
      (s.bitIdx = 0 → (rxfStored s).bitIdx = 7 ∧ (rxfStored s).byteIdx.toNat = s.byteIdx.toNat + 1) := by
  have hcap := payloadCap_le hc
  refine ⟨fun h => advanceBit_of_ne h, fun h => advanceBit_of_zero h ?_⟩
  show s.byteIdx.toNat < 255
  unfold bufCap at hidx
  omega

/-- Settles O40: the stored bit and the new position do not depend on the overflow guard, which then ends
the frame or lets decoding go on. -/
theorem rxfStoresOneBit : Obligations.RxfStoresOneBit := by
  intro s hc hat hidx c d hstop
  have hexec : exec .rxf s = .next (rxfGuard (rxfStored s.sample2)) :=
    exec_rxf_sample_store hat hidx fun h => hstop (stopCondition_iff.mp h)
  have ⟨hb, _, _⟩ := hat
  have hbit := s.sample2.bitOf_byteAt_putBit s.byteIdx.toNat s.bitIdx (v := d)
  have hother (a : Nat) (ha : a ≠ s.byteIdx.toNat) := s.sample2.byteAt_putBit_of_ne ha s.bitIdx d
  obtain ⟨hnext, hzero⟩ := rxfStored_position (s := s.sample2) hc hidx
  have hle : (rxfStored s.sample2).byteIdx.toNat ≤ bufCap s.cfg :=
    advanceBit_byteIdx_le (s := s.sample2.saveEdge.putBit s.byteIdx.toNat s.bitIdx d) hidx
  rcases hle.lt_or_eq with hlt | hfull
  · rw [rxfGuard_of_lt hlt] at hexec
    exact ⟨_, hexec, rfl, rfl, rfl, rfl, hbit, hother, hnext, hzero,
      fun _ => ⟨rfl, hb, rfl, rfl, rfl⟩, fun h => absurd h hlt.ne, rfl⟩
  · rw [rxfGuard_of_eq hfull] at hexec
    have hlen : ((rxfStored s.sample2).byteIdx - 3).toNat = s.cfg.payloadCap := by
      unfold bufCap at hfull
      bv_omega
    exact ⟨_, hexec, rfl, rfl, rfl, rfl, hbit, hother, hnext, hzero, fun h => absurd hfull h.ne,
      fun _ => ⟨rfl, rfl, rfl, rfl, hlen⟩, rfl⟩

end Sys2Proof.Machine

/-! ## The command words: one word per command, the opcode map, bad words (spec/30_encoding.md R68 to R71) -/

namespace Sys2Proof

/-- A word is its three fields (R68). -/
theorem word_ext {v w : CmdWord} (hop : opField v = opField w) (hrsv : rsvField v = rsvField w)
    (himm : immField v = immField w) : v = w := by
  apply BitVec.eq_of_toNat_eq
  simp only [opField, rsvField, immField, ← BitVec.toNat_inj, BitVec.extractLsb'_toNat,
    Nat.shiftRight_eq_div_pow] at hop hrsv himm
  omega

/-- What format Z asks of a word (R69, R71). -/
theorem formatZ_eq_ok {w : CmdWord} {i j : Instr} :
    formatZ w i = .ok j ↔ (rsvField w = 0 ∧ immField w = 0) ∧ i = j := by
  unfold formatZ
  split_ifs with h
  · simp [h]
  · exact iff_of_false (by simp) fun ⟨hz, _⟩ => h hz

/-- What format I asks of a word (R69, R71). -/
theorem formatI_eq_ok {w : CmdWord} {f : Byte → Instr} {j : Instr} :
    formatI w f = .ok j ↔ rsvField w = 0 ∧ f (immField w) = j := by
  unfold formatI
  split_ifs with h
  · simp [h]
  · exact iff_of_false (by simp) fun ⟨hz, _⟩ => h hz

/-- A word that decodes to a command has no reserved bit set and that command's `imm8` (R69, R71). -/
theorem fields_of_decode {w : CmdWord} {i : Instr} (h : decode w = .ok i) :
    rsvField w = rsvField (encode i) ∧ immField w = immField (encode i) := by
  unfold decode at h
  split at h
  case h_1 | h_2 | h_3 | h_4 | h_8 | h_12 | h_13 =>
    obtain ⟨⟨hrsv, himm⟩, rfl⟩ := formatZ_eq_ok.mp h
    simp [encode, hrsv, himm]
  case h_5 | h_6 | h_7 | h_9 | h_10 | h_11 =>
    obtain ⟨hrsv, rfl⟩ := formatI_eq_ok.mp h
    simp [encode, hrsv]
  case h_14 => cases h

/-- A word that decodes to a command is that command's word (R70, R71). -/
theorem encode_of_decode {w : CmdWord} {i : Instr} (h : decode w = .ok i) : encode i = w := by
  obtain ⟨hrsv, himm⟩ := fields_of_decode h
  exact (word_ext (opField_of_decode h) hrsv himm).symm

theorem decode_eq_ok_iff {w : CmdWord} {i : Instr} : decode w = .ok i ↔ w = encode i :=
  ⟨fun h => (encode_of_decode h).symm, fun h => h ▸ decode_encode i⟩

/-- Settles O1: a word that decodes to a command agrees with that command's word in all three fields. -/
theorem decodeInvertsEncode : Obligations.DecodeInvertsEncode :=
  ⟨decode_encode, fun _ _ => encode_of_decode⟩

/-! ### The opcode map -/

/-- A row without operand: the mask keeps the whole word (R70). -/
theorem wholeWord_selects (w : CmdWord) (i : Instr) :
    w &&& 0xFFFF#16 = encode i ↔ decode w = .ok i := by
  rw [decode_eq_ok_iff, show w &&& 0xFFFF#16 = w from BitVec.and_allOnes]

/-- The mask of a row with operand keeps the opcode and the reserved bits and clears `imm8` (R70). -/
theorem highByte_fields (w : CmdWord) :
    opField (w &&& 0xFF00#16) = opField w ∧ rsvField (w &&& 0xFF00#16) = rsvField w ∧
      immField (w &&& 0xFF00#16) = 0 := by
  simp only [opField, rsvField, immField, BitVec.extractLsb'_and]
  exact ⟨BitVec.and_allOnes, BitVec.and_allOnes, BitVec.and_zero⟩

/-- A row with operand: the words with its opcode, no reserved bit and any `imm8` (R70). -/
theorem highByte_selects (w : CmdWord) {op : BitVec 4} {f : Byte → Instr}
    (hf : ∀ b, encode (f b) = commandWord op b) :
    w &&& 0xFF00#16 = commandWord op 0 ↔ decode w = .ok (f (immField w)) := by
  rw [decode_eq_ok_iff, hf]
  obtain ⟨hop, hrsv, himm⟩ := highByte_fields w
  constructor <;> intro h
  · refine word_ext ?_ ?_ (by simp)
    · rw [← hop, h, opField_commandWord, opField_commandWord]
    · rw [← hrsv, h, rsvField_commandWord, rsvField_commandWord]
  · refine word_ext ?_ ?_ (by simp [himm])
    · rw [hop, h, opField_commandWord, opField_commandWord]
    · rw [hrsv, h, rsvField_commandWord, rsvField_commandWord]

/-- Settles O2: each row has one of the two masks, and its match is the row's word with operand 0. -/
theorem opcodeMapSelects : Obligations.OpcodeMapSelects := fun w =>
  ⟨wholeWord_selects w .nop, wholeWord_selects w .bind, wholeWord_selects w .clr,
    wholeWord_selects w .blds, highByte_selects w (f := .putb) fun _ => rfl,
    highByte_selects w (f := .blde) fun _ => rfl, highByte_selects w (f := .setl) fun _ => rfl,
    wholeWord_selects w .vfy, highByte_selects w (f := .getb) fun _ => rfl,
    highByte_selects w (f := .txf) fun _ => rfl, highByte_selects w (f := .txa) fun _ => rfl,
    wholeWord_selects w .rxf, wholeWord_selects w .rxa⟩

/-! ### Bad words -/

/-- The opcodes of format Z (R69, R70). -/
def formatZOpcodes : List (BitVec 4) := [0x0#4, 0x1#4, 0x2#4, 0x3#4, 0x7#4, 0xB#4, 0xC#4]

/-- What the decoder does with each opcode: refuse it, or check one of the two formats (R71). -/
theorem decode_cases (w : CmdWord) :
    0xD ≤ (opField w).toNat ∧ decode w = .error .illegalOpcode ∨
      (opField w).toNat ≤ 0xC ∧ opField w ∈ formatZOpcodes ∧ (∃ i, decode w = formatZ w i) ∨
      (opField w).toNat ≤ 0xC ∧ opField w ∉ formatZOpcodes ∧ ∃ f, decode w = formatI w f := by
  unfold decode formatZOpcodes
  split
  case h_14 =>
    refine .inl ⟨?_, rfl⟩
    simp only [imp_false] at *
    omega
  case h_1 hop | h_2 hop | h_3 hop | h_4 hop | h_8 hop | h_12 hop | h_13 hop =>
    exact .inr (.inl ⟨by omega, by simp [← BitVec.toNat_inj, hop], _, rfl⟩)
  case h_5 hop | h_6 hop | h_7 hop | h_9 hop | h_10 hop | h_11 hop =>
    exact .inr (.inr ⟨by omega, by simp [← BitVec.toNat_inj, hop], _, rfl⟩)

theorem decode_illegal {w : CmdWord} (h : 0xD ≤ (opField w).toNat) : decode w = .error .illegalOpcode := by
  rcases decode_cases w with ⟨-, he⟩ | ⟨hle, -⟩ | ⟨hle, -⟩
  · exact he
  all_goals omega

theorem decode_reserved {w : CmdWord} (h : (opField w).toNat ≤ 0xC) (hrsv : rsvField w ≠ 0) :
    decode w = .error .reservedField := by
  rcases decode_cases w with ⟨hge, -⟩ | ⟨-, -, i, he⟩ | ⟨-, -, f, he⟩
  · omega
  · rw [he, formatZ, if_neg fun hz => hrsv hz.1]
  · rw [he, formatI, if_neg hrsv]

theorem decode_operandOfZ {w : CmdWord} (h : opField w ∈ formatZOpcodes) (himm : immField w ≠ 0) :
    decode w = .error .reservedField := by
  rcases decode_cases w with ⟨hge, -⟩ | ⟨-, -, i, he⟩ | ⟨-, hI, -⟩
  · have hle : ∀ op ∈ formatZOpcodes, op.toNat ≤ 0xC := by decide
    have := hle _ h
    omega
  · rw [he, formatZ, if_neg fun hz => himm hz.2]
  · exact absurd h hI

theorem decode_legal {w : CmdWord} (h : (opField w).toNat ≤ 0xC) (hrsv : rsvField w = 0)
    (himm : opField w ∈ formatZOpcodes → immField w = 0) : ∃ i, decode w = .ok i := by
  rcases decode_cases w with ⟨hge, -⟩ | ⟨-, hZ, i, he⟩ | ⟨-, -, f, he⟩
  · omega
  · exact ⟨i, he.trans (formatZ_eq_ok.mpr ⟨⟨hrsv, himm hZ⟩, rfl⟩)⟩
  · exact ⟨_, he.trans (formatI_eq_ok.mpr ⟨hrsv, rfl⟩)⟩

end Sys2Proof

namespace Sys2Proof.Machine

/-- An idle core that is offered a bad word records the command error and does nothing else (R71, R183). -/
theorem step_badWord {s : State} {e : CmdErr} (hb : s.busy = false) (hr : s.port.rst = false)
    (hv : s.port.cmdValid = true) (hw : decode s.port.cmd = .error e) :
    step s = .next (s.cmdError e).endTick := by
  have hwork : s.work = .badWord e := by simp [State.work, hr, hb, hv, hw, offered]
  rw [step, hwork]

/-- Settles O3: the four kinds of word by the decoder's cases, and the step that records the error. -/
theorem badWordsRaiseCommandError : Obligations.BadWordsRaiseCommandError := by
  intro w
  refine ⟨decode_illegal, decode_reserved, decode_operandOfZ, decode_legal, rfl, rfl, ?_⟩
  rintro e s hw hb hr hv rfl
  exact step_badWord hb hr hv hw

/-- Settles O4: the words with a command are read back from the encoder, the others fall under one kind of
bad word each. -/
theorem exampleWordsDecode : Obligations.ExampleWordsDecode :=
  ⟨decode_encode .nop, decode_encode .bind, decode_encode .clr, decode_encode (.putb 0x50),
    decode_encode (.txf 7), decode_encode (.txa 0x6D), decode_encode .rxf, decode_encode .rxa,
    decode_illegal (by decide), decode_reserved (by decide) (by decide),
    decode_operandOfZ (by decide) (by decide)⟩

end Sys2Proof.Machine

/-! ## Where a run stands after `n` ticks (spec/00_scope.md R9; spec/10_state.md R21) -/

namespace Sys2Proof.Machine

/-- The state with `n` ticks past: the inputs of `n` ticks are over, and `n` more ticks are counted
(log 3, log 7). -/
def State.ticked (s : State) (n : Nat) : State := { s with env := s.env.drop n, draws := s.draws + n }

theorem State.ticked_zero (s : State) : s.ticked 0 = s := rfl

theorem State.endTick_ticked (s : State) (n : Nat) : (s.ticked n).endTick = s.ticked (n + 1) := by
  simp only [State.endTick, State.ticked, List.tail_drop]
  rfl

/-- A tick without reset shows no reset on the port. -/
theorem State.noReset.port_rst {s x : State} {n k : Nat} (h : s.noReset n) (hk : k < n)
    (henv : x.env = s.env) : (x.ticked k).port.rst = false := by
  have hk := h k hk
  rwa [List.getD_eq_getElem?_getD, ← List.head?_drop, ← henv, ← List.headD_eq_head?_getD] at hk

theorem State.noReset.mono {s : State} {m n : Nat} (h : s.noReset n) (hm : m ≤ n) : s.noReset m :=
  fun k hk => h k (hk.trans_le hm)

/-- `n` ticks after `s` the core stands at `x`, but for the inputs past and the ticks counted. -/
def State.standsAt (s : State) (n : Nat) (x : State) : Prop := runs n s = .next (x.ticked n)

theorem State.standsAt.cast {s x : State} {n N : Nat} (h : s.standsAt n x) (hN : N = n) :
    s.standsAt N x := hN ▸ h

theorem State.standsAt.pads {s x : State} {n N : Nat} (h : s.standsAt n x) (hN : N = n) :
    ∃ t, runs N s = .next t ∧ t.pads = x.pads := ⟨_, h.cast hN, rfl⟩

/-- In `x`, a state of a run from `s`, command `i` runs. -/
structure Carries (i : Instr) (s x : State) : Prop where
  busy : x.busy = true
  word : x.cmdr = encode i
  env : x.env = s.env

/-- One more tick. -/
theorem State.standsAt.tick {s x y : State} {n : Nat} (h : s.standsAt n x)
    (hstep : step (x.ticked n) = .next (y.ticked n).endTick) : s.standsAt (n + 1) y := by
  rw [State.standsAt, runs_add n 1 h, runs_succ 0 hstep, runs_zero, State.endTick_ticked]

/-- Without reset a busy core executes a tick of the command in CMDR (R155, R159). -/
theorem Carries.step {i : Instr} {s x y : State} {n : Nat} (hx : Carries i s x) (hr : s.noReset (n + 1))
    (hexec : exec i (x.ticked n) = .next (y.ticked n)) : step (x.ticked n) = .next (y.ticked n).endTick := by
  have hrst := hr.port_rst (Nat.lt_succ_self n) hx.env
  have hdec : decode (x.ticked n).cmdr = .ok i := hx.word ▸ decode_encode i
  have hwork : (x.ticked n).work = .command i := by
    rw [State.work, hrst, show (x.ticked n).busy = true from hx.busy, hdec]
    rfl
  rw [Machine.step, hwork]
  simp only [hexec, onNext]

/-- A tick with a micro-operation that begins no delay. -/
theorem State.standsAt.uop {i : Instr} {s x y : State} {n N : Nat} (h : s.standsAt n x) (hN : N = n + 1)
    (hx : Carries i s x) (hd : x.dlyCnt = 0) (hr : s.noReset N)
    (hop : ∀ k, microOp i (x.ticked k) = .next (y.ticked k)) : s.standsAt N y := by
  subst hN
  exact h.tick (hx.step hr ((exec_uop i (s := x.ticked n) hx.busy hd).trans (hop n)))

/-- From tick `n` on the core is busy and drives its pads at `p` for `d` ticks; then it stands at `y`. -/
structure Holds (s : State) (n d : Nat) (p : Pads) (y : State) : Prop where
  held : ∀ j < d, ∃ t, runs (n + j) s = .next t ∧ t.busy = true ∧ t.pads = p
  ends : s.standsAt (n + d) y

/-- The state in which a hold ends still drives the same levels: they stay until the next write. -/
theorem Holds.pads_le {s y : State} {n d j N : Nat} {p : Pads} (h : Holds s n d p y) (hy : y.pads = p)
    (hj : j ≤ d) (hN : N = n + j) : ∃ t, runs N s = .next t ∧ t.pads = p := by
  subst hN
  rcases hj.lt_or_eq with hlt | rfl
  · obtain ⟨t, ht, -, hp⟩ := h.held j hlt
    exact ⟨t, ht, hp⟩
  · exact ⟨_, h.ends, hy⟩

theorem Holds.busy_pads_le {s y : State} {n d j N : Nat} {p : Pads} (h : Holds s n d p y)
    (hb : y.busy = true) (hy : y.pads = p) (hj : j ≤ d) (hN : N = n + j) :
    ∃ t, runs N s = .next t ∧ t.busy = true ∧ t.pads = p := by
  subst hN
  rcases hj.lt_or_eq with hlt | rfl
  · exact h.held j hlt
  · exact ⟨_, h.ends, hb, hy⟩

/-! ### Delays -/

/-- The state with `d` ticks of a delay to go. -/
def State.withDelay (s : State) (d : Nat) : State := { s with dlyCnt := d }

/-- A tick of a delay before its last one (R21). -/
theorem exec_withDelay (i : Instr) {s : State} (hb : s.busy = true) {d : Nat} (hd : d ≠ 0) :
    exec i (s.withDelay (d + 1)) = .next (s.withDelay d) := by
  have hne : (s.withDelay (d + 1)).dlyCnt ≠ 1 := by simpa [State.withDelay] using hd
  rw [exec_countDown i (s := s.withDelay (d + 1)) hb d.succ_ne_zero, State.countDown, if_neg hne]
  rfl

/-- The last tick of a delay moves the sequencer on (R21). -/
theorem exec_withDelay_one (i : Instr) {s : State} (hb : s.busy = true) :
    exec i (s.withDelay 1) = .next (afterDelay i (s.withDelay 0)) :=
  exec_countDown i (s := s.withDelay 1) hb one_ne_zero

theorem Carries.withDelay {i : Instr} {s u : State} (h : Carries i s u) (d : Nat) :
    Carries i s (u.withDelay d) := ⟨h.busy, h.word, h.env⟩

/-- After `j` ticks of a delay of `j + e` ticks, `e` ticks are left. -/
theorem State.standsAt.counting {i : Instr} {s u : State} {n j e : Nat}
    (h : s.standsAt n (u.withDelay (j + e))) (hu : Carries i s u) (he : e ≠ 0) (hr : s.noReset (n + j)) :
    s.standsAt (n + j) (u.withDelay e) := by
  induction j generalizing e with
  | zero => rwa [Nat.zero_add] at h
  | succ j ih =>
    have hj : s.standsAt (n + j) (u.withDelay (e + 1)) :=
      ih (by rwa [Nat.succ_add] at h) e.succ_ne_zero (hr.mono (by omega))
    exact hj.tick ((hu.withDelay _).step hr (exec_withDelay i (s := u.ticked (n + j)) hu.busy he))

/-- A delay holds the lines; in its last tick the sequencer moves on (R21). -/
theorem State.standsAt.holds {i : Instr} {s u y : State} {n d : Nat} (h : s.standsAt n (u.withDelay d))
    (hu : Carries i s u) (hd : d ≠ 0) (hr : s.noReset (n + d))
    (hafter : ∀ k, afterDelay i ((u.withDelay 0).ticked k) = y.ticked k) : Holds s n d u.pads y := by
  have hcount (j : Nat) (hj : j < d) : s.standsAt (n + j) (u.withDelay (d - j)) :=
    State.standsAt.counting (by rwa [Nat.add_sub_cancel' hj.le]) hu (by omega) (hr.mono (by omega))
  refine ⟨fun j hj => ⟨_, hcount j hj, hu.busy, rfl⟩, ?_⟩
  obtain ⟨e, rfl⟩ := Nat.exists_eq_succ_of_ne_zero hd
  have hlast := hcount e (Nat.lt_succ_self e)
  rw [Nat.succ_sub le_rfl, Nat.sub_self] at hlast
  refine hlast.tick ((hu.withDelay _).step hr ?_)
  exact (exec_withDelay_one i (s := u.ticked (n + e)) hu.busy).trans (congrArg _ (hafter _))

/-- A micro-operation with a delay after it: its writes show for the ticks of the delay (R9, R21). -/
theorem State.standsAt.uop_holds {i : Instr} {s x u y : State} {n N d : Nat} (h : s.standsAt n x)
    (hN : N = n + 1) (hx : Carries i s x) (hdly : x.dlyCnt = 0) (hu : Carries i s u) (hd : d ≠ 0)
    (hr : s.noReset (N + d))
    (hop : ∀ k, microOp i (x.ticked k) = .next ((u.ticked k).delay d (afterDelay i)))
    (hafter : ∀ k, afterDelay i ((u.withDelay 0).ticked k) = y.ticked k) : Holds s N d u.pads y := by
  have hload (k : Nat) : microOp i (x.ticked k) = .next ((u.withDelay d).ticked k) := by
    rw [hop, State.delay, if_neg hd]
    rfl
  exact (h.uop hN hx hdly (hr.mono (by omega)) hload).holds hu hd hr hafter

/-! ### Acceptance (spec/44_system.md R155, R156) -/

/-- A waiting core of a legal configuration is offered a command that passes every check. -/
structure TakesUp (s : State) (i : Instr) : Prop where
  cfg : s.cfg.wf = true
  waiting : s.waiting
  bound : s.bound = true
  range : inRange s.cfg i = true
  offers : s.offers i

/-- After the accepting tick the command runs, from its first state. -/
theorem TakesUp.standsAt_latch {s : State} {i : Instr} (h : TakesUp s i) (hr : s.noReset 1) :
    s.standsAt 1 (s.latch i) := by
  obtain ⟨hb, -, -⟩ := h.waiting
  obtain ⟨hvalid, hword⟩ := h.offers
  have hwork : s.work = .command i := by
    simp [State.work, show s.port.rst = false from hr.port_rst Nat.one_pos rfl, hb, hvalid, hword, offered]
  have haccept : s.accept i = s.latch i := by simp [State.accept, h.bound, h.range]
  refine State.standsAt.tick (x := s) (n := 0) rfl ?_
  rw [s.ticked_zero, step, hwork]
  simp only [exec_idle i hb, haccept, onNext, State.ticked_zero]

/-- The run of the command from its acceptance. -/
theorem carries_latch (i : Instr) (s : State) : Carries i s (s.latch i) := ⟨rfl, rfl, rfl⟩

end Sys2Proof.Machine

/-! ## TXF on the wire, tick by tick (spec/41_transmitter.md R101 to R108) -/

namespace Sys2Proof.Machine

/-! ### The bit position -/

/-- The state with BYTEIDX, BITIDX and PHASE written. -/
def State.positioned (s : State) (byte : Byte) (bit : BitVec 3) (phase : Level) : State :=
  { s with byteIdx := byte, bitIdx := bit, phase := phase }

/-- The state at bit `k` of a frame: bit `7 - k mod 8` of byte `k div 8`, at phase `k mod 2` (R61, R103). -/
def State.atBit (s : State) (k : Nat) : State :=
  s.positioned (BitVec.ofNat 8 (k / 8)) (BitVec.ofNat 3 (7 - k % 8)) (decide (k % 2 = 1))

theorem bitPosition_eq_zero (k : Nat) : BitVec.ofNat 3 (7 - k % 8) = 0 ↔ k % 8 = 7 := by
  rw [← BitVec.toNat_inj, BitVec.toNat_ofNat]
  show (7 - k % 8) % 8 = 0 ↔ _
  omega

/-- BITIDX runs from 7 down to 0 and starts again (R16). -/
theorem bitPosition_succ (k : Nat) :
    (if BitVec.ofNat 3 (7 - k % 8) = 0 then 7 else BitVec.ofNat 3 (7 - k % 8) - 1) =
      BitVec.ofNat 3 (7 - (k + 1) % 8) := by
  have hr : k % 8 < 8 := Nat.mod_lt _ (by decide)
  rw [Nat.add_mod]
  generalize k % 8 = r at hr
  interval_cases r <;> rfl

/-- BYTEIDX advances after bit 0 of each byte (R16). -/
theorem bytePosition_succ (k : Nat) :
    (if BitVec.ofNat 3 (7 - k % 8) = 0 then BitVec.ofNat 8 (k / 8) + 1 else BitVec.ofNat 8 (k / 8)) =
      BitVec.ofNat 8 ((k + 1) / 8) := by
  split_ifs with h <;> rw [bitPosition_eq_zero] at h
  · rw [show (k + 1) / 8 = k / 8 + 1 by omega, BitVec.ofNat_add]
    rfl
  · rw [show (k + 1) / 8 = k / 8 by omega]

/-- Odd and even alternate. -/
theorem not_odd_eq (k : Nat) : (!decide (k % 2 = 1)) = decide ((k + 1) % 2 = 1) := by
  rw [← decide_not, decide_eq_decide]
  omega

theorem odd_eq_even_succ (k : Nat) : decide (k % 2 = 1) = decide ((k + 1) % 2 = 0) := by
  rw [decide_eq_decide]
  omega

/-- The clock write of bit `k` goes on to bit `k + 1` (R103). -/
theorem clockPhase_advanceBit_atBit (s : State) (k : Nat) :
    (s.atBit k).clockPhase.advanceBit = (s.writeClock (decide (k % 2 = 1))).atBit (k + 1) := by
  rw [State.atBit, State.atBit, ← bitPosition_succ, ← bytePosition_succ, ← not_odd_eq]
  rfl

/-! ### The states of a run of TXF -/

/-- The run of `TXF m` from its acceptance in `s`, in state `q` with the lines driven to these levels. -/
def txfAt (s : State) (m : Byte) (q : Seq) (clk dat : Level) : State :=
  { s.latch (.txf m) with st := q, pads := ⟨clk, dat, true, true⟩, dlyCnt := 0 }

/-- The same at bit `k` of the frame. -/
def txfBit (s : State) (m : Byte) (q : Seq) (k : Nat) (clk dat : Level) : State :=
  (txfAt s m q clk dat).atBit k

/-- The run after `k` bits: before the DATA write of bit `k`, or before TF_FORCE when no bit is left; the
bit before has left DATA at `dat` and CLOCK at the phase before (R103). -/
def txfCell (s : State) (m : Byte) (k : Nat) (dat : Level) : State :=
  txfBit s m (if k < 8 * m.toNat then .tfBitData else .tfForce) k (decide (k % 2 = 0)) dat

theorem carries_txfAt (s : State) (m : Byte) (q : Seq) (clk dat : Level) :
    Carries (.txf m) s (txfAt s m q clk dat) := ⟨rfl, rfl, rfl⟩

theorem carries_txfBit (s : State) (m : Byte) (q : Seq) (k : Nat) (clk dat : Level) :
    Carries (.txf m) s (txfBit s m q k clk dat) := ⟨rfl, rfl, rfl⟩

/-- Within a frame BYTEIDX does not wrap (R16, R103). -/
theorem bytePosition_toNat {k : Nat} {m : Byte} (hk : k ≤ 8 * m.toNat) :
    (BitVec.ofNat 8 (k / 8)).toNat = k / 8 := by
  rw [BitVec.toNat_ofNat]
  omega

/-- The loop test after `k` bits (R103). -/
theorem txfLoop_txfBit (s : State) {m : Byte} {k : Nat} (q : Seq) (dat : Level) (hk : k ≤ 8 * m.toNat)
    (n : Nat) :
    txfLoop m ((txfBit s m q k (decide (k % 2 = 0)) dat).ticked n) = (txfCell s m k dat).ticked n := by
  have hbyte : ((txfBit s m q k (decide (k % 2 = 0)) dat).ticked n).byteIdx.toNat = k / 8 :=
    bytePosition_toNat hk
  rw [txfLoop, hbyte, txfCell]
  by_cases hlt : k < 8 * m.toNat
  · rw [if_pos (by omega), if_pos hlt]
    rfl
  · rw [if_neg (by omega), if_neg hlt]
    rfl

section

variable {s : State} {m : Byte} {n N : Nat} (hacc : TakesUp s (.txf m))

include hacc

/-- A micro-operation of TXF with its hold (R108). -/
theorem State.standsAt.txf_holds {x u y : State} (h : s.standsAt n x) (hN : N = n + 1)
    (hx : Carries (.txf m) s x) (hdly : x.dlyCnt = 0) (hu : Carries (.txf m) s u) (hcfg : u.cfg = s.cfg)
    (hr : s.noReset (N + holdTicks s.cfg)) (hop : ∀ k, txfUop m (x.ticked k) = txfHold m (u.ticked k))
    (hafter : ∀ k, txfAfter m ((u.withDelay 0).ticked k) = y.ticked k) :
    Holds s N (holdTicks s.cfg) u.pads y :=
  h.uop_holds hN hx hdly hu (holdTicks_pos hacc.cfg).ne' hr (fun k => hcfg ▸ hop k) hafter

/-- TF_DRIVE, TF_START_LO and TF_START_HI (R62, R101, R102). -/
theorem txf_start (hr : s.noReset (4 + 3 * holdTicks s.cfg)) :
    Holds s 2 (holdTicks s.cfg) ⟨true, true, true, true⟩ (txfAt s m .tfStartLo true true) ∧
    Holds s (3 + holdTicks s.cfg) (holdTicks s.cfg) ⟨true, false, true, true⟩
      (txfAt s m .tfStartHi true false) ∧
    Holds s (4 + 2 * holdTicks s.cfg) (holdTicks s.cfg) ⟨true, true, true, true⟩ (txfCell s m 0 true) := by
  obtain ⟨-, -, hdly⟩ := hacc.waiting
  have hdrive : Holds s 2 (holdTicks s.cfg) ⟨true, true, true, true⟩ (txfAt s m .tfStartLo true true) :=
    (hacc.standsAt_latch (hr.mono (by omega))).txf_holds hacc (u := (s.latch (.txf m)).driveBothHigh) rfl
      (carries_latch _ s) hdly ⟨rfl, rfl, rfl⟩ rfl (hr.mono (by omega)) (fun _ => rfl) fun _ => rfl
  have hlow : Holds s (3 + holdTicks s.cfg) (holdTicks s.cfg) ⟨true, false, true, true⟩
      (txfAt s m .tfStartHi true false) :=
    hdrive.ends.txf_holds hacc (u := txfAt s m .tfStartLo true false) (by omega) (carries_txfAt ..) rfl
      (carries_txfAt ..) rfl (hr.mono (by omega)) (fun _ => rfl) fun _ => rfl
  have hhigh : Holds s (4 + 2 * holdTicks s.cfg) (holdTicks s.cfg) ⟨true, true, true, true⟩
      (txfCell s m 0 true) :=
    hlow.ends.txf_holds hacc (u := txfBit s m .tfStartHi 0 true true) (by omega) (carries_txfAt ..) rfl
      (carries_txfBit ..) rfl (hr.mono (by omega)) (fun _ => rfl)
      (txfLoop_txfBit s .tfStartHi true (Nat.zero_le _))
  exact ⟨hdrive, hlow, hhigh⟩

/-- One bit cell: DATA one tick before CLOCK, then both held (R61, R103). -/
theorem txf_cell {k : Nat} {dat : Level} (h : s.standsAt n (txfCell s m k dat)) (hk : k < 8 * m.toNat)
    (hr : s.noReset (n + 2 + holdTicks s.cfg)) :
    s.standsAt (n + 1) (txfBit s m .tfBitClock k (decide (k % 2 = 0)) (s.wireBit k)) ∧
      Holds s (n + 2) (holdTicks s.cfg) ⟨decide (k % 2 = 1), s.wireBit k, true, true⟩
        (txfCell s m (k + 1) (s.wireBit k)) := by
  have hcap : m.toNat ≤ bufCap s.cfg := of_decide_eq_true hacc.range
  have hbyte : (BitVec.ofNat 8 (k / 8)).toNat = k / 8 := bytePosition_toNat hk.le
  rw [txfCell, if_pos hk] at h
  have hdata : s.standsAt (n + 1) (txfBit s m .tfBitClock k (decide (k % 2 = 0)) (s.wireBit k)) := by
    refine h.uop rfl (carries_txfBit ..) rfl (hr.mono (by omega)) fun j => ?_
    refine (withIndex_of_lt (i := (BitVec.ofNat 8 (k / 8)).toNat) ?_ _).trans ?_
    · show (BitVec.ofNat 8 (k / 8)).toNat < bufCap s.cfg
      omega
    · rw [State.wireBit, ← hbyte]
      rfl
  refine ⟨hdata, hdata.txf_holds hacc
    (u := txfBit s m .tfBitClock (k + 1) (decide (k % 2 = 1)) (s.wireBit k)) (by omega)
    (carries_txfBit ..) rfl (carries_txfBit ..) rfl (hr.mono (by omega)) (fun j => ?_) ?_⟩
  · exact congrArg (txfHold m) (clockPhase_advanceBit_atBit (State.ticked _ j) k)
  · rw [odd_eq_even_succ]
    exact txfLoop_txfBit s .tfBitClock _ hk

/-- After `k` bits the run stands before the next one, or behind the last (R103, R108). -/
theorem txf_cells {k : Nat} (hk : k ≤ 8 * m.toNat)
    (hr : s.noReset (4 + 3 * holdTicks s.cfg + k * (2 + holdTicks s.cfg))) :
    ∃ dat, s.standsAt (4 + 3 * holdTicks s.cfg + k * (2 + holdTicks s.cfg)) (txfCell s m k dat) := by
  induction k with
  | zero =>
    obtain ⟨-, -, hhigh⟩ := txf_start hacc (hr.mono (by omega))
    exact ⟨true, hhigh.ends.cast (by omega)⟩
  | succ k ih =>
    rw [Nat.succ_mul k] at hr ⊢
    obtain ⟨dat, h⟩ := ih (by omega) (hr.mono (by omega))
    obtain ⟨-, hcell⟩ := txf_cell hacc h hk (hr.mono (by omega))
    exact ⟨s.wireBit k, hcell.ends.cast (by omega)⟩

/-- TF_FORCE, TF_STOP_LO and TF_STOP_HI (R64, R104 to R107). -/
theorem txf_stop {dat : Level} (h : s.standsAt n (txfCell s m (8 * m.toNat) dat))
    (hr : s.noReset (n + 3 + 3 * holdTicks s.cfg)) :
    Holds s (n + 1) (holdTicks s.cfg) ⟨true, true, true, true⟩
        (txfBit s m .tfStopLo (8 * m.toNat) true true) ∧
      Holds s (n + 2 + holdTicks s.cfg) (holdTicks s.cfg) ⟨true, false, true, true⟩
        (txfBit s m .tfStopHi (8 * m.toNat) true false) ∧
      Holds s (n + 3 + 2 * holdTicks s.cfg) (holdTicks s.cfg) ⟨true, true, true, true⟩
        (txfBit s m .tfStopHi (8 * m.toNat) true true).done := by
  have hclk : decide (8 * m.toNat % 2 = 0) = true := by rw [decide_eq_true_eq]; omega
  have hphase : decide (8 * m.toNat % 2 = 1) = false := by rw [decide_eq_false_iff_not]; omega
  rw [txfCell, if_neg (lt_irrefl _), hclk] at h
  have hforce : Holds s (n + 1) (holdTicks s.cfg) ⟨true, true, true, true⟩
      (txfBit s m .tfStopLo (8 * m.toNat) true true) := by
    refine h.txf_holds hacc (u := txfBit s m .tfForce (8 * m.toNat) true true) rfl (carries_txfBit ..) rfl
      (carries_txfBit ..) rfl (hr.mono (by omega)) (fun _ => rfl) fun _ => ?_
    exact if_neg (ne_true_of_eq_false hphase)
  have hlow : Holds s (n + 2 + holdTicks s.cfg) (holdTicks s.cfg) ⟨true, false, true, true⟩
      (txfBit s m .tfStopHi (8 * m.toNat) true false) :=
    hforce.ends.txf_holds hacc (u := txfBit s m .tfStopLo (8 * m.toNat) true false) (by omega)
      (carries_txfBit ..) rfl (carries_txfBit ..) rfl (hr.mono (by omega)) (fun _ => rfl) fun _ => rfl
  have hhigh : Holds s (n + 3 + 2 * holdTicks s.cfg) (holdTicks s.cfg) ⟨true, true, true, true⟩
      (txfBit s m .tfStopHi (8 * m.toNat) true true).done :=
    hlow.ends.txf_holds hacc (u := txfBit s m .tfStopHi (8 * m.toNat) true true) (by omega)
      (carries_txfBit ..) rfl (carries_txfBit ..) rfl (hr.mono (by omega)) (fun _ => rfl) fun _ => rfl
  exact ⟨hforce, hlow, hhigh⟩

end

/-- Settles O35: bit `k` has its cell after the start condition and `k` cells. -/
theorem txfBitCellsOnTheWire : Obligations.TxfBitCellsOnTheWire := by
  intro s m k hcfg hwait hbound hm hoff hk hr
  have hacc : TakesUp s (.txf m) := ⟨hcfg, hwait, hbound, decide_eq_true hm, hoff⟩
  have hbits : (k + 1) * (2 + holdTicks s.cfg) ≤ 8 * m.toNat * (2 + holdTicks s.cfg) :=
    Nat.mul_le_mul_right _ hk
  rw [Nat.succ_mul k] at hbits
  obtain ⟨dat, hat⟩ := txf_cells hacc hk.le (hr.mono (by omega))
  obtain ⟨hdata, hclock⟩ := txf_cell hacc hat hk (hr.mono (by omega))
  refine ⟨hdata.pads (by omega), fun j hj => hclock.pads_le ?_ hj (by omega)⟩
  rw [odd_eq_even_succ]
  rfl

/-- Settles O36: the three levels of the start, and after `8 m` cells those of the end. -/
theorem txfStartAndStopOnTheWire : Obligations.TxfStartAndStopOnTheWire := by
  intro s m j hcfg hwait hbound hm hoff hj b hr
  have hacc : TakesUp s (.txf m) := ⟨hcfg, hwait, hbound, decide_eq_true hm, hoff⟩
  obtain ⟨hdrive, hlow, hhigh⟩ := txf_start hacc (hr.mono (by omega))
  obtain ⟨dat, hat⟩ := txf_cells hacc le_rfl (hr.mono (by omega))
  obtain ⟨hforce, hstopLow, hstopHigh⟩ := txf_stop hacc hat (hr.mono (by omega))
  exact ⟨hdrive.pads_le rfl hj (by omega), hlow.pads_le rfl hj (by omega), hhigh.pads_le rfl hj (by omega),
    hforce.pads_le rfl hj (by omega), hstopLow.pads_le rfl hj (by omega),
    hstopHigh.pads_le rfl hj (by omega)⟩

end Sys2Proof.Machine

/-! ## TXA on the wire, tick by tick (spec/43_acknowledgment.md R141 to R144) -/

namespace Sys2Proof.Machine

/-- The state at bit `j` of an acknowledgment byte, or after the eighth: BITIDX counts down and stays at 0,
PHASE is `j mod 2` (R142, R143). -/
def State.atAckBit (s : State) (j : Nat) : State :=
  s.positioned s.byteIdx (BitVec.ofNat 3 (7 - j)) (decide (j % 2 = 1))

theorem ackBitPosition_succ {j : Nat} (hj : j < 8) :
    (if BitVec.ofNat 3 (7 - j) = 0 then 0 else BitVec.ofNat 3 (7 - j) - 1) = BitVec.ofNat 3 (7 - (j + 1)) := by
  interval_cases j <;> rfl

/-- The clock write of bit `j` goes on to bit `j + 1` (R142). -/
theorem clockPhase_ackBitDown_atAckBit (s : State) {j : Nat} (hj : j < 8) :
    (s.atAckBit j).clockPhase.ackBitDown = (s.writeClock (decide (j % 2 = 1))).atAckBit (j + 1) := by
  rw [State.atAckBit, State.atAckBit, ← ackBitPosition_succ hj, ← not_odd_eq]
  rfl

/-- The run of `TXA a` from its acceptance in `s`, in state `q` with the lines driven to these levels. -/
def txaAt (s : State) (a : Byte) (q : Seq) (clk dat : Level) : State :=
  { s.latch (.txa a) with st := q, pads := ⟨clk, dat, true, true⟩, dlyCnt := 0 }

/-- The same at bit `j` of the byte. -/
def txaBit (s : State) (a : Byte) (q : Seq) (j : Nat) (clk dat : Level) : State :=
  (txaAt s a q clk dat).atAckBit j

/-- The run after `j` bits: before the DATA write of bit `j`, or before TA_RESTORE after the eighth; the bit
before has left DATA at `dat` and CLOCK at the phase before (R142, R144). -/
def txaCell (s : State) (a : Byte) (j : Nat) (dat : Level) : State :=
  txaBit s a (if j < 8 then .taBitData else .taRestore) j (decide (j % 2 = 0)) dat

theorem carries_txaBit (s : State) (a : Byte) (q : Seq) (j : Nat) (clk dat : Level) :
    Carries (.txa a) s (txaBit s a q j clk dat) := ⟨rfl, rfl, rfl⟩

/-- Of the positions after a bit, only the one after the eighth has BITIDX = 0 and PHASE = 0 (log 12). -/
theorem ackEnd_iff {j : Nat} (hj : j ≤ 8) :
    BitVec.ofNat 3 (7 - j) = 0 ∧ decide (j % 2 = 1) = false ↔ j = 8 := by
  interval_cases j <;> decide

/-- Where TXA goes after the hold of a bit cell (R144). -/
theorem txaAfter_txaBit (s : State) (a : Byte) {j : Nat} (dat : Level) (hj : j ≤ 8) (n : Nat) :
    txaAfter ((txaBit s a .taBitClock j (decide (j % 2 = 0)) dat).ticked n) =
      (txaCell s a j dat).ticked n := by
  rw [txaCell]
  by_cases hlt : j < 8
  · rw [if_pos hlt]
    exact if_neg fun h => hlt.ne ((ackEnd_iff hj).mp h)
  · rw [if_neg hlt]
    exact if_pos ((ackEnd_iff hj).mpr (by omega))

section

variable {s : State} {a : Byte} {n : Nat} (hacc : TakesUp s (.txa a))

include hacc

/-- TA_DRIVE (R141). -/
theorem txa_start (hr : s.noReset (2 + 2 * holdTicks s.cfg)) :
    Holds s 2 (2 * holdTicks s.cfg) ⟨true, true, true, true⟩ (txaCell s a 0 true) := by
  obtain ⟨-, -, hdly⟩ := hacc.waiting
  have hpos := holdTicks_pos hacc.cfg
  exact (hacc.standsAt_latch (hr.mono (by omega))).uop_holds
    (u := { (s.latch (.txa a)).driveBothHigh with phase := false, bitIdx := 7 }) rfl (carries_latch _ s) hdly
    ⟨rfl, rfl, rfl⟩ (by omega) hr (fun _ => rfl) fun _ => rfl

/-- One bit cell: DATA one tick before CLOCK, then both held (R66, R142). -/
theorem txa_cell {j : Nat} {dat : Level} (h : s.standsAt n (txaCell s a j dat)) (hj : j < 8)
    (hr : s.noReset (n + 2 + holdTicks s.cfg)) :
    s.standsAt (n + 1)
        (txaBit s a .taBitClock j (decide (j % 2 = 0)) (bitOf a (BitVec.ofNat 3 (7 - j)))) ∧
      Holds s (n + 2) (holdTicks s.cfg) ⟨decide (j % 2 = 1), bitOf a (BitVec.ofNat 3 (7 - j)), true, true⟩
        (txaCell s a (j + 1) (bitOf a (BitVec.ofNat 3 (7 - j)))) := by
  generalize hbit : bitOf a (BitVec.ofNat 3 (7 - j)) = b
  rw [txaCell, if_pos hj] at h
  have hdata : s.standsAt (n + 1) (txaBit s a .taBitClock j (decide (j % 2 = 0)) b) :=
    h.uop rfl (carries_txaBit ..) rfl (hr.mono (by omega)) fun _ => hbit ▸ rfl
  refine ⟨hdata, hdata.uop_holds (u := txaBit s a .taBitClock (j + 1) (decide (j % 2 = 1)) b) (by omega)
    (carries_txaBit ..) rfl (carries_txaBit ..) (holdTicks_pos hacc.cfg).ne' (hr.mono (by omega))
    (fun k => ?_) ?_⟩
  · exact congrArg (fun t : State => Host.Outcome.next (t.delay (holdTicks s.cfg) txaAfter))
      (clockPhase_ackBitDown_atAckBit (State.ticked _ k) hj)
  · rw [odd_eq_even_succ]
    exact txaAfter_txaBit s a b hj

/-- After `j` bits the run stands before the next one, or behind the eighth (R142, R144). -/
theorem txa_cells {j : Nat} (hj : j ≤ 8)
    (hr : s.noReset (2 + 2 * holdTicks s.cfg + j * (2 + holdTicks s.cfg))) :
    ∃ dat, s.standsAt (2 + 2 * holdTicks s.cfg + j * (2 + holdTicks s.cfg)) (txaCell s a j dat) := by
  induction j with
  | zero => exact ⟨true, (txa_start hacc (hr.mono (by omega))).ends.cast (by omega)⟩
  | succ j ih =>
    rw [Nat.succ_mul j] at hr ⊢
    obtain ⟨dat, h⟩ := ih (by omega) (hr.mono (by omega))
    obtain ⟨-, hcell⟩ := txa_cell hacc h hj (hr.mono (by omega))
    exact ⟨_, hcell.ends.cast (by omega)⟩

end

/-- What TXA leaves of `s`: both lines driven HIGH, the position after the eighth bit, its own word in CMDR
and the loop registers of its acceptance (R66, R143, R155). -/
def txaDone (s : State) (a : Byte) : State :=
  { s.idled with
    pads := ⟨true, true, true, true⟩
    phase := false
    bitIdx := 0
    cmdr := encode (.txa a)
    loopIdx := 0
    acc1 := 0
    acc2 := 0 }

/-- TA_RESTORE drives both lines HIGH and ends the command (R144). -/
theorem txaBit_restore (s : State) (a : Byte) (dat : Level) :
    (txaBit s a .taRestore 8 true dat).writeBothHigh.done = txaDone s a := by
  dsimp only [txaDone, txaBit, txaAt, State.atAckBit, State.positioned, State.latch, State.writeBothHigh,
    State.done, State.idled]
  rfl

/-- A waiting core is as it was when ST, BUSY and DLYCNT are those of an idle core (R22). -/
theorem State.waiting.idled_eq {s : State} (h : s.waiting) : s.idled = s := by
  cases s
  dsimp only [State.waiting] at h
  obtain ⟨rfl, rfl, rfl⟩ := h
  rfl

/-- Settles O43: the first hold, the cell of each bit after `j` cells, and TA_RESTORE after the eighth, which
leaves the lines HIGH and the core waiting. -/
theorem txaSendsEightBitCells : Obligations.TxaSendsEightBitCells := by
  intro s a hcfg hwait hbound hoff
  dsimp only
  intro hr
  have hacc : TakesUp s (.txa a) := ⟨hcfg, hwait, hbound, rfl, hoff⟩
  refine ⟨fun h hh => (txa_start hacc (hr.mono (by omega))).pads_le rfl hh (by omega), fun j hj => ?_, ?_⟩
  · have hbits : (j + 1) * (2 + holdTicks s.cfg) ≤ 8 * (2 + holdTicks s.cfg) := Nat.mul_le_mul_right _ hj
    rw [Nat.succ_mul j] at hbits
    obtain ⟨dat, hat⟩ := txa_cells hacc hj.le (hr.mono (by omega))
    obtain ⟨hdata, hclock⟩ := txa_cell hacc hat hj (hr.mono (by omega))
    refine ⟨hdata.pads (by omega), fun h hh => hclock.busy_pads_le rfl ?_ hh (by omega)⟩
    rw [odd_eq_even_succ]
    rfl
  · obtain ⟨dat, hat⟩ := txa_cells hacc le_rfl (hr.mono (by omega))
    have hrestore : s.standsAt (1 + (18 + 10 * holdTicks s.cfg)) (txaDone s a) :=
      hat.uop (by omega) (carries_txaBit ..) rfl hr fun _ => txaBit_restore s a dat ▸ rfl
    exact ⟨_, hrestore, ⟨rfl, rfl, rfl⟩, rfl, rfl, rfl, fun _ => rfl, hwait.idled_eq⟩

end Sys2Proof.Machine

/-! ## Checksum arithmetic (spec/40_frame_codec.md R80 to R82, R89, R93) -/

namespace Sys2Proof.Machine

theorem toNat_sumMod255 (x y : Byte) : (sumMod255 x y).toNat = (x.toNat + y.toNat) % 255 := by
  rw [sumMod255, BitVec.toNat_ofNat]
  omega

/-- Settles O29: both sums of a step are sums mod 255, the second over the first one just computed. -/
theorem checksumStepArithmetic : Obligations.ChecksumStepArithmetic := by
  intro p b
  obtain ⟨h1, h2⟩ := csumStep_le p b
  exact ⟨toNat_sumMod255 _ _, toNat_sumMod255 _ _, h1, h2⟩

/-- The comparison of VFY as a proposition (R89). -/
theorem csumMatches_eq_decide (p : Byte × Byte) (x y : Byte) :
    csumMatches p x y = decide (p.1 = x ∧ p.2 = y) := (Bool.decide_and _ _).symm

theorem csum_append (xs ys : List Byte) : csum (xs ++ ys) = ys.foldl csumStep (csum xs) := List.foldl_append

/-- A further byte is a further checksum step (R81). -/
theorem csum_concat (xs : List Byte) (b : Byte) : csum (xs ++ [b]) = csumStep (csum xs) b :=
  csum_append xs [b]

/-- The first component is the sum of the bytes, mod 255 (R80, R93). -/
theorem toNat_csum_fst (xs : List Byte) : (csum xs).1.toNat = (xs.map BitVec.toNat).sum % 255 := by
  induction xs using List.reverseRecOn with
  | nil => rfl
  | append_singleton xs b ih =>
    rw [csum_concat, csumStep, toNat_sumMod255, ih, Nat.mod_add_mod]
    simp

/-- 0x00 and 0xFF are one residue mod 255, so a step does not tell them apart (R93). -/
theorem csumStep_zero_eq_ff (p : Byte × Byte) : csumStep p 0x00 = csumStep p 0xFF := by
  have h : sumMod255 p.1 0x00 = sumMod255 p.1 0xFF :=
    congrArg (BitVec.ofNat 8) (Nat.add_mod_right p.1.toNat 255).symm
  rw [csumStep, csumStep, h]

/-- Any two other bytes are two residues mod 255. -/
theorem eq_or_zero_ff_of_mod_eq {b c : Byte} (h : b.toNat % 255 = c.toNat % 255) :
    b = c ∨ b = 0x00 ∧ c = 0xFF ∨ b = 0xFF ∧ c = 0x00 := by
  bv_omega

/-- Changing one byte changes the first component unless the two bytes are one residue (R93). -/
theorem mod_eq_of_csum_fst_eq {xs ys : List Byte} {b c : Byte}
    (h : (csum (xs ++ b :: ys)).1 = (csum (xs ++ c :: ys)).1) : b.toNat % 255 = c.toNat % 255 := by
  have hsum := congrArg BitVec.toNat h
  simp only [toNat_csum_fst, List.map_append, List.map_cons, List.sum_append, List.sum_cons] at hsum
  omega

/-- A step over 0x00 or 0xFF leaves the pair (0, 0) as it is. -/
theorem csumStep_zeroPair {b : Byte} (h : b = 0x00 ∨ b = 0xFF) : csumStep (0, 0) b = (0, 0) := by
  rcases h with rfl | rfl <;> rfl

theorem csum_of_zero_ff {xs : List Byte} (h : ∀ b ∈ xs, b = 0x00 ∨ b = 0xFF) : csum xs = (0, 0) := by
  induction xs using List.reverseRecOn with
  | nil => rfl
  | append_singleton xs b ih =>
    rw [csum_concat, ih fun c hc => h c (by simp [hc]), csumStep_zeroPair (h b (by simp))]

/-- Settles O30: the first component is a sum mod 255, in which only 0x00 and 0xFF are one residue. -/
theorem checksumDetectsAllButZeroFf : Obligations.ChecksumDetectsAllButZeroFf := by
  refine ⟨fun xs ys => ?_, fun xs ys b c hbc h0 hf heq => ?_, fun xs ys hperm => ?_, rfl, rfl,
    fun xs => csum_of_zero_ff⟩
  · rw [csum_append, csum_append, List.foldl_cons, List.foldl_cons, csumStep_zero_eq_ff]
  · rcases eq_or_zero_ff_of_mod_eq (mod_eq_of_csum_fst_eq heq) with h | h | h
    · exact hbc h
    · exact h0 h
    · exact hf h
  · apply BitVec.eq_of_toNat_eq
    rw [toNat_csum_fst, toNat_csum_fst, (hperm.map _).sum_eq]

end Sys2Proof.Machine

/-! ## One tick of a codec command (spec/40_frame_codec.md R83 to R90) -/

namespace Sys2Proof.Machine

/-- An idle core refuses a command other than a line command by its range (R156 (4), R183). -/
theorem exec_range_refused {i : Instr} {s : State} (hb : s.busy = false) (hi : isLineCommand i = false)
    (hr : inRange s.cfg i = false) : exec i s = .next (s.cmdError .range) := by
  rw [exec_idle i hb, State.accept, hi, hr]
  rfl

section

variable {s : State} (h : s.st = .exec)
include h

theorem microOp_clr : microOp .clr s = clearTick s := inExec_exec h

theorem microOp_blds : microOp .blds s = bldsTick s := inExec_exec h

theorem microOp_putb (b : Byte) : microOp (.putb b) s = .next (putbTick b s).done :=
  inExec_exec (uop := fun s => .next (putbTick b s).done) h

theorem microOp_blde (d : Byte) (hi : s.len.toNat + 2 < bufCap s.cfg) :
    microOp (.blde d) s = .next (bldeTick d s).done :=
  (inExec_exec (uop := fun s => withIndex s _ (.next (bldeTick d s).done)) h).trans (withIndex_of_lt hi _)

theorem microOp_setl (n : Byte) : microOp (.setl n) s = .next { s with len := n }.done :=
  inExec_exec (uop := fun s => .next (State.done { s with len := n })) h

theorem microOp_vfy : microOp .vfy s = vfyTick s := inExec_exec h

theorem microOp_getb (i : Byte) (hi : i.toNat < bufCap s.cfg) :
    microOp (.getb i) s = .next { s with dout := s.byteAt i.toNat }.done :=
  (inExec_exec (uop := fun s => withIndex s _ (.next (State.done { s with dout := s.byteAt i.toNat })))
    h).trans (withIndex_of_lt hi _)

end

/-- Settles O24: one write in EXEC, and the range check in an idle core. -/
theorem setlWritesLength : Obligations.SetlWritesLength := fun n _ =>
  ⟨fun ⟨hb, hst, hd⟩ => (exec_uop _ hb hd).trans (microOp_setl hst n),
    fun hb hn => exec_range_refused hb rfl (decide_eq_false (Nat.not_le.mpr hn))⟩

/-- Settles O27: one read in EXEC, of an index that exists, and the range check in an idle core. -/
theorem getbReadsByte : Obligations.GetbReadsByte := fun i _ =>
  ⟨fun ⟨hb, hst, hd⟩ hi => (exec_uop _ hb hd).trans (microOp_getb hst i hi),
    fun hb hi => exec_range_refused hb rfl (decide_eq_false (Nat.not_lt.mpr hi))⟩

/-! ### CLR and BLDS -/

/-- Before the last byte the clearing loop goes on (R83). -/
theorem clearTick_of_lt {s : State} (h : s.loopIdx + 1 < bufCap s.cfg) :
    clearTick s = .next { s.putByte s.loopIdx 0 with loopIdx := s.loopIdx + 1 } :=
  (withIndex_of_lt (Nat.lt_of_succ_lt h) _).trans (congrArg _ (if_pos h))

/-- With the last byte it is done (R83). -/
theorem clearTick_of_last {s : State} (h : s.loopIdx + 1 = bufCap s.cfg) :
    clearTick s = .next (s.putByte s.loopIdx 0).done :=
  (withIndex_of_lt (h ▸ Nat.lt_succ_self _) _).trans (congrArg _ (if_neg h.not_lt))

/-- One tick of the clearing loop: the byte of the index is 0, and the index is the next one or the command
is done. -/
theorem clearTick_clears {s : State} (hb : s.busy = true) (hst : s.st = .exec)
    (h : s.loopIdx < bufCap s.cfg) :
    ∃ t, clearTick s = .next t ∧ t.byteAt s.loopIdx = 0 ∧
      (∀ a, a ≠ s.loopIdx → t.byteAt a = s.byteAt a) ∧
      (s.loopIdx + 1 < bufCap s.cfg → t.loopIdx = s.loopIdx + 1 ∧ t.busy = true ∧ t.st = .exec) ∧
      (s.loopIdx + 1 = bufCap s.cfg → t.busy = false ∧ t.st = .idle) ∧
      { t with buf := s.buf, loopIdx := s.loopIdx, busy := s.busy, st := s.st } = s := by
  have hzero : (s.putByte s.loopIdx 0).byteAt s.loopIdx = 0 := by rw [State.byteAt_putByte, if_pos rfl]
  have hother (a : Nat) (ha : a ≠ s.loopIdx) : (s.putByte s.loopIdx 0).byteAt a = s.byteAt a := by
    rw [State.byteAt_putByte, if_neg ha]
  rcases Nat.lt_or_eq_of_le (Nat.succ_le_of_lt h) with hn | hn
  · exact ⟨_, clearTick_of_lt hn, hzero, hother, fun _ => ⟨rfl, hb, hst⟩, fun he => absurd he hn.ne, rfl⟩
  · exact ⟨_, clearTick_of_last hn, hzero, hother, fun hlt => absurd hn hlt.ne, fun _ => ⟨rfl, rfl⟩, rfl⟩

theorem clearTick_lenAndSums {s t : State} (h : clearTick s = .next t) :
    t.len = s.len ∧ t.sum1 = s.sum1 ∧ t.sum2 = s.sum2 := by
  rw [clearTick_frame h]
  exact ⟨rfl, rfl, rfl⟩

/-- LEN, SUM1 and SUM2 are zero: the start of an empty frame (R84). -/
def State.emptied (s : State) : State := { s with len := 0, sum1 := 0, sum2 := 0 }

theorem bldsTick_first {s : State} (h : s.loopIdx = 0) : bldsTick s = clearTick s.emptied :=
  congrArg clearTick (if_pos h)

theorem bldsTick_later {s : State} (h : s.loopIdx ≠ 0) : bldsTick s = clearTick s :=
  congrArg clearTick (if_neg h)

/-- Settles O18: BLDS is the clearing loop of CLR, in its first tick with LEN, SUM1 and SUM2 zero. -/
theorem clearingTickClearsOneByte : Obligations.ClearingTickClearsOneByte := by
  rintro s ⟨hb, hst, hd⟩ hidx
  rw [exec_uop _ hb hd, exec_uop _ hb hd, microOp_clr hst, microOp_blds hst]
  refine ⟨clearTick_clears hb hst hidx, ?_⟩
  by_cases h0 : s.loopIdx = 0
  · obtain ⟨t, ht, hzero, hother, hnext, hlast, hframe⟩ := clearTick_clears (s := s.emptied) hb hst hidx
    exact ⟨t, bldsTick_first h0 ▸ ht, hzero, hother, fun _ => clearTick_lenAndSums ht,
      fun hne => absurd h0 hne, hnext, hlast,
      congrArg (fun u : State => { u with len := s.len, sum1 := s.sum1, sum2 := s.sum2 }) hframe⟩
  · obtain ⟨t, ht, hzero, hother, hnext, hlast, hframe⟩ := clearTick_clears hb hst hidx
    exact ⟨t, bldsTick_later h0 ▸ ht, hzero, hother, fun h => absurd h h0,
      fun _ => clearTick_lenAndSums ht, hnext, hlast,
      congrArg (fun u : State => { u with len := s.len, sum1 := s.sum1, sum2 := s.sum2 }) hframe⟩

/-! ### PUTB and BLDE -/

/-- PUTB with room (R85). -/
theorem putbTick_room {b : Byte} {s : State} (h : s.len.toNat < s.cfg.payloadCap) :
    putbTick b s =
      { s.putByte s.len.toNat b with
        sum1 := (csumStep (s.sum1, s.sum2) b).1
        sum2 := (csumStep (s.sum1, s.sum2) b).2
        len := s.len + 1 } := if_pos h

/-- PUTB without room (R85). -/
theorem putbTick_full {b : Byte} {s : State} (h : s.cfg.payloadCap ≤ s.len.toNat) : putbTick b s = s :=
  if_neg (Nat.not_lt.mpr h)

/-- Below a legal PAYLOAD_CAP the increment of LEN does not wrap (R5, R12). -/
theorem toNat_len_succ {s : State} (hc : s.cfg.wf = true) (h : s.len.toNat < s.cfg.payloadCap) :
    (s.len + 1).toNat = s.len.toNat + 1 := by
  have hcap := payloadCap_le hc
  bv_omega

/-- Settles O21: the tick with room stores at LEN and takes one checksum step; without room it is `done`. -/
theorem putbAppendsByte : Obligations.PutbAppendsByte := by
  rintro b s hc ⟨hb, hst, hd⟩
  rw [exec_uop _ hb hd, microOp_putb hst]
  refine ⟨fun hroom => ?_, fun hfull => by rw [putbTick_full hfull]; rfl⟩
  rw [putbTick_room hroom]
  obtain ⟨hsum1, hsum2, -⟩ := checksumStepArithmetic (s.sum1, s.sum2) b
  exact ⟨_, rfl, (s.byteAt_putByte _ _ b).trans (if_pos rfl),
    fun a ha => (s.byteAt_putByte _ a b).trans (if_neg ha), hsum1, hsum2, toNat_len_succ hc hroom, rfl, rfl,
    rfl⟩

/-- The buffer behind BLDE: the trailer at LEN, LEN + 1, LEN + 2 and every other byte as it was (R86). -/
theorem byteAt_bldeTick (d : Byte) (s : State) (a : Nat) :
    (bldeTick d s).byteAt a =
      if a = s.len.toNat + 2 then d else if a = s.len.toNat + 1 then s.sum2
      else if a = s.len.toNat then s.sum1 else s.byteAt a := by
  simp only [bldeTick, State.byteAt_putByte]
  rfl

/-- LEN leaves room for the trailer (R5, R41). -/
theorem trailer_inside {s : State} (h : s.len.toNat ≤ s.cfg.payloadCap) :
    s.len.toNat + 2 < bufCap s.cfg := by
  unfold bufCap
  omega

/-- Settles O22: the trailer lies inside the buffer, and its three stores are all that BLDE does. -/
theorem bldeWritesTrailer : Obligations.BldeWritesTrailer := by
  rintro d s hlen ⟨hb, hst, hd⟩
  rw [exec_uop _ hb hd, microOp_blde hst d (trailer_inside hlen)]
  have hread : ∀ a, (bldeTick d s).done.byteAt a = _ := byteAt_bldeTick d s
  refine ⟨_, rfl, ?_, ?_, ?_, fun a h0 h1 h2 => ?_, rfl, rfl, rfl⟩
  · rw [hread, if_neg (by omega), if_neg (by omega), if_pos rfl]
  · rw [hread, if_neg (by omega), if_pos rfl]
  · rw [hread, if_pos rfl]
  · rw [hread, if_neg h2, if_neg h1, if_neg h0]

/-! ### VFY -/

/-- Below LEN a tick of VFY is a checksum step (R89). -/
theorem vfyTick_of_lt {s : State} (hlen : s.len.toNat ≤ s.cfg.payloadCap) (h : s.loopIdx < s.len.toNat) :
    vfyTick s = .next (vfyStep s) :=
  (if_pos h).trans (withIndex_of_lt (h.trans (Nat.lt_of_add_right_lt (trailer_inside hlen))) _)

/-- At LEN it is the comparison (R89). -/
theorem vfyTick_of_eq {s : State} (hlen : s.len.toNat ≤ s.cfg.payloadCap) (h : s.loopIdx = s.len.toNat) :
    vfyTick s = .next (vfyFinish s).done :=
  (if_neg h.not_lt).trans (withIndex_of_lt (Nat.lt_of_succ_lt (trailer_inside hlen)) _)

/-- Settles O25: a checksum step below LEN, the comparison at LEN. -/
theorem vfyTickStepsOrCompares : Obligations.VfyTickStepsOrCompares := by
  rintro s hlen ⟨hb, hst, hd⟩
  rw [exec_uop _ hb hd, microOp_vfy hst]
  refine ⟨fun hlt => ?_, fun heq => ?_⟩
  · obtain ⟨hacc1, hacc2, -⟩ := checksumStepArithmetic (s.acc1, s.acc2) (s.byteAt s.loopIdx)
    exact ⟨_, vfyTick_of_lt hlen hlt, hacc1, hacc2, rfl, rfl⟩
  · rw [vfyTick_of_eq hlen heq, vfyFinish, csumMatches_eq_decide]
    rfl

end Sys2Proof.Machine

/-! ## A codec command does not look at the lines (spec/40_frame_codec.md R92) -/

namespace Sys2Proof.Machine

/-- The state with the line registers, the edge-sample state, PHASE, ACKV, the positions, FRAMEEND, OVF,
SHORT, BOUND and the bus of `l` (R92). -/
def State.withLines (s l : State) : State :=
  { s with
    pads := l.pads
    sigPrev := l.sigPrev
    datPrev := l.datPrev
    sigCurr := l.sigCurr
    datCurr := l.datCurr
    phase := l.phase
    ackv := l.ackv
    byteIdx := l.byteIdx
    bitIdx := l.bitIdx
    frameEnd := l.frameEnd
    ovf := l.ovf
    short := l.short
    bound := l.bound
    env := l.env }

/-- The commands of the frame codec. -/
def isCodecCommand (i : Instr) : Prop :=
  ∃ b, i = .clr ∨ i = .blds ∨ i = .putb b ∨ i = .blde b ∨ i = .setl b ∨ i = .vfy ∨ i = .getb b

theorem isCodecCommand.not_line {i : Instr} (h : isCodecCommand i) : isLineCommand i = false := by
  obtain ⟨b, rfl | rfl | rfl | rfl | rfl | rfl | rfl⟩ := h <;> rfl

/-- A codec command has no delay of its own, so nothing happens at the end of one. -/
theorem isCodecCommand.afterDelay {i : Instr} (h : isCodecCommand i) : afterDelay i = id := by
  obtain ⟨b, rfl | rfl | rfl | rfl | rfl | rfl | rfl⟩ := h <;> rfl

section

variable (s l : State)

theorem State.ite_withLines (c : Prop) [Decidable c] (t : State) :
    (if c then s else t).withLines l = if c then s.withLines l else t.withLines l :=
  apply_ite (State.withLines · l) c s t

theorem clearTick_withLines : clearTick (s.withLines l) = onNext (·.withLines l) (clearTick s) := by
  unfold clearTick
  dsimp only
  rw [onNext_withIndex, onNext, State.ite_withLines]
  rfl

theorem bldsTick_withLines : bldsTick (s.withLines l) = onNext (·.withLines l) (bldsTick s) := by
  unfold bldsTick
  rw [← clearTick_withLines, State.ite_withLines]
  rfl

theorem putbTick_withLines (b : Byte) : putbTick b (s.withLines l) = (putbTick b s).withLines l := by
  unfold putbTick
  dsimp only
  rw [State.ite_withLines]
  rfl

theorem vfyTick_withLines : vfyTick (s.withLines l) = onNext (·.withLines l) (vfyTick s) := by
  unfold vfyTick
  rw [onNext_ite, onNext_withIndex, onNext_withIndex]
  rfl

theorem inExec_withLines {uop : State → Answer}
    (hu : uop (s.withLines l) = onNext (·.withLines l) (uop s)) :
    inExec uop (s.withLines l) = onNext (·.withLines l) (inExec uop s) := by
  simp only [inExec, show (s.withLines l).st = s.st from rfl]
  cases s.st
  case exec => exact hu
  all_goals rfl

variable {i : Instr} (hi : isCodecCommand i)
include hi

theorem microOp_withLines : microOp i (s.withLines l) = onNext (·.withLines l) (microOp i s) := by
  obtain ⟨b, rfl | rfl | rfl | rfl | rfl | rfl | rfl⟩ := hi <;> dsimp only [microOp] <;>
    apply inExec_withLines
  · exact clearTick_withLines s l
  · exact bldsTick_withLines s l
  · rw [putbTick_withLines]; rfl
  · rw [onNext_withIndex]; rfl
  · rfl
  · exact vfyTick_withLines s l
  · rw [onNext_withIndex]; rfl

/-- Acceptance reads BOUND for a line command only (R156 (3)). -/
theorem accept_withLines : (s.withLines l).accept i = (s.accept i).withLines l := by
  simp only [State.accept, hi.not_line, Bool.false_and, Bool.false_eq_true, if_false]
  rw [State.ite_withLines]
  rfl

theorem countDown_withLines :
    (s.withLines l).countDown (afterDelay i) = (s.countDown (afterDelay i)).withLines l := by
  rw [hi.afterDelay, State.countDown, State.countDown, State.ite_withLines]
  rfl

/-- A tick of a codec command neither reads nor writes what `withLines` replaces. -/
theorem exec_withLines : exec i (s.withLines l) = onNext (·.withLines l) (exec i s) := by
  simp only [exec_eq_commandTick, commandTick]
  rw [accept_withLines s l hi, countDown_withLines s l hi, microOp_withLines s l hi, onNext_ite, onNext_ite]
  rfl

end

/-- Settles O28: acceptance and the micro-operations of the codec commands commute with replacing these
registers and the bus. -/
theorem codecTouchesNoLine : Obligations.CodecTouchesNoLine := by
  intro i s p e1 e2 e3 e4 ph fe ov sh bo a y x v hi put
  exact exec_withLines s (put s) hi

end Sys2Proof.Machine

/-! ## CLR, BLDS and VFY from acceptance to `done` (spec/40_frame_codec.md R83, R84, R89) -/

namespace Sys2Proof.Machine

/-- A waiting core is as it was when ST and BUSY are those of an idle core (R9, R22). -/
theorem State.waiting.done_eq {s : State} (h : s.waiting) : s.done = s := by
  cases s
  dsimp only [State.waiting] at h
  obtain ⟨rfl, rfl, -⟩ := h
  rfl

/-- After `done` with no delay pending the core waits. -/
theorem State.done_waiting {s : State} (h : s.dlyCnt = 0) : s.done.waiting := ⟨rfl, rfl, h⟩

/-- A waiting core takes up every codec or system command whose operand is in range (R155, R156). -/
theorem State.waiting.standsAt_latch {s : State} {i : Instr} (hw : s.waiting) (ho : s.offers i)
    (hi : isLineCommand i = false) (hc : inRange s.cfg i = true) (hr : s.noReset 1) :
    s.standsAt 1 (s.latch i) := by
  obtain ⟨hb, -, -⟩ := hw
  obtain ⟨hvalid, hword⟩ := ho
  have hwork : s.work = .command i := by
    simp [State.work, show s.port.rst = false from hr.port_rst Nat.one_pos rfl, hb, hvalid, hword, offered]
  have haccept : s.accept i = s.latch i := by simp [State.accept, hi, hc]
  refine State.standsAt.tick (x := s) (n := 0) rfl ?_
  rw [s.ticked_zero, step, hwork]
  simp only [exec_idle i hb, haccept, onNext, State.ticked_zero]

/-! ### The clearing loop -/

/-- The bytes below `n` set to zero, index ascending (R83). -/
def Memory.zeroed (m : Memory) : Nat → Memory
  | 0 => m
  | n + 1 => Memory.store (Memory.zeroed m n) n 0

theorem Memory.lookup_zeroed (m : Memory) (n a : Nat) :
    Memory.lookup (Memory.zeroed m n) a = if a < n then some 0 else Memory.lookup m a := by
  induction n with
  | zero => rfl
  | succ n ih =>
    rw [Memory.zeroed, Memory.lookup_store, ih]
    grind

/-- The clearing loop from `s` before the byte of index `k`. -/
def State.clearing (s : State) (k : Nat) : State := { s with buf := Memory.zeroed s.buf k, loopIdx := k }

theorem State.byteAt_clearing {s : State} {k a : Nat} (h : a < k) : (s.clearing k).byteAt a = 0 := by
  simp [State.byteAt, State.clearing, Memory.lookup_zeroed, h]

/-- What the clearing loop leaves of `s`. -/
def State.cleared (s : State) : State :=
  { s.clearing (bufCap s.cfg) with loopIdx := bufCap s.cfg - 1 }.done

theorem State.byteAt_cleared {s : State} {a : Nat} (h : a < bufCap s.cfg) : s.cleared.byteAt a = 0 :=
  State.byteAt_clearing h

theorem clearTick_clearing {s : State} {k : Nat} (h : k + 1 < bufCap s.cfg) (n : Nat) :
    clearTick ((s.clearing k).ticked n) = .next ((s.clearing (k + 1)).ticked n) := clearTick_of_lt h

theorem clearTick_clearing_last {s : State} {k : Nat} (h : k + 1 = bufCap s.cfg) (n : Nat) :
    clearTick ((s.clearing k).ticked n) = .next (s.cleared.ticked n) := by
  rw [State.cleared, ← h, Nat.add_sub_cancel]
  exact clearTick_of_last h

section

variable {i : Instr} {s u : State} {n j : Nat} (h : s.standsAt n (u.clearing j)) (hu : Carries i s u)
  (hd : u.dlyCnt = 0)
  (hop : ∀ j k, microOp i ((u.clearing j).ticked k) = clearTick ((u.clearing j).ticked k))
include h hu hd hop

/-- `d` ticks of the clearing loop clear `d` bytes (R224). -/
theorem State.standsAt.clearing {d : Nat} (hj : j + d < bufCap u.cfg) (hr : s.noReset (n + d)) :
    s.standsAt (n + d) (u.clearing (j + d)) := by
  induction d with
  | zero => exact h
  | succ d ih =>
    exact (ih (by omega) (hr.mono (by omega))).uop (i := i) rfl ⟨hu.busy, hu.word, hu.env⟩ hd hr fun k =>
      (hop _ k).trans (clearTick_clearing hj k)

/-- After its last byte the command is done (R83, R224). -/
theorem State.standsAt.cleared {N : Nat} (hj : j < bufCap u.cfg) (hN : N = n + (bufCap u.cfg - j))
    (hr : s.noReset N) : s.standsAt N u.cleared := by
  obtain ⟨d, hlast⟩ : ∃ d, j + d + 1 = bufCap u.cfg := ⟨bufCap u.cfg - j - 1, by omega⟩
  exact (h.clearing hu hd hop (d := d) (by omega) (hr.mono (by omega))).uop (i := i) (by omega)
    ⟨hu.busy, hu.word, hu.env⟩ hd hr fun k => (hop _ k).trans (clearTick_clearing_last hlast k)

end

/-- Settles O19: after `k` ticks of the loop `k` bytes are zero, and the rest is as acceptance left it. -/
theorem clrClearsWholeBuffer : Obligations.ClrClearsWholeBuffer := by
  intro s hw hr ho
  obtain ⟨-, -, hd⟩ := id hw
  have hcap : 0 < bufCap s.cfg := Nat.succ_pos _
  have hlatch : s.standsAt 1 ((s.latch .clr).clearing 0) := hw.standsAt_latch ho rfl rfl (hr.mono (by omega))
  have hop (j k : Nat) := microOp_clr (s := ((s.latch .clr).clearing j).ticked k) rfl
  refine ⟨fun k hk hlt => ?_, _, hlatch.cleared (carries_latch _ s) hd hop hcap rfl hr,
    State.done_waiting hd, fun a ha => State.byteAt_cleared ha, hw.done_eq⟩
  obtain ⟨d, rfl⟩ := Nat.exists_eq_add_of_le hk
  exact ⟨_, hlatch.clearing (carries_latch _ s) hd hop (by simpa using hlt) (hr.mono (by omega)), rfl⟩

/-- BLDS clears LEN, SUM1 and SUM2 with the first byte and then goes on as the clearing loop (R84, R224). -/
theorem State.waiting.standsAt_blds {s : State} (hw : s.waiting) (ho : s.offers .blds)
    (hr : s.noReset (1 + bufCap s.cfg)) :
    s.standsAt (1 + bufCap s.cfg) (s.latch .blds).emptied.cleared := by
  obtain ⟨-, -, hd⟩ := id hw
  have hcap : 0 + 1 < bufCap s.cfg := Nat.succ_lt_succ (Nat.succ_pos _)
  have hfirst : s.standsAt 2 ((s.latch .blds).emptied.clearing 1) :=
    (hw.standsAt_latch ho rfl rfl (hr.mono (by omega))).uop rfl (carries_latch _ s) hd
      (hr.mono (by omega)) fun k => (microOp_blds rfl).trans
        ((bldsTick_first (s := (s.latch .blds).ticked k) rfl).trans
          (clearTick_clearing (s := (s.latch .blds).emptied) hcap k))
  refine hfirst.cleared ⟨rfl, rfl, rfl⟩ hd (fun j k => (microOp_blds rfl).trans ?_) hcap ?_ hr
  · rw [bldsTick]
    split_ifs <;> rfl
  · show 1 + bufCap s.cfg = 2 + (bufCap s.cfg - 1)
    omega

/-- Settles O20: what BLDS leaves, field by field. -/
theorem bldsStartsEmptyFrame : Obligations.BldsStartsEmptyFrame := by
  intro s hw hr ho
  have ⟨_, _, hd⟩ := hw
  exact ⟨_, hw.standsAt_blds ho hr, State.done_waiting hd, fun a ha => State.byteAt_cleared ha, rfl, rfl, rfl,
    hw.done_eq⟩

/-! ### The checksum loop -/

/-- The payload with one more byte. -/
theorem State.bytes_succ (s : State) (k : Nat) : s.bytes (k + 1) = s.bytes k ++ [s.byteAt k] := by
  simp [State.bytes, List.range_succ]

/-- The run of VFY from its acceptance in `s`, after the checksum steps over the first `k` bytes (R89). -/
def vfyAt (s : State) (k : Nat) : State :=
  { s.latch .vfy with acc1 := (csum (s.bytes k)).1, acc2 := (csum (s.bytes k)).2, loopIdx := k }

theorem vfyStep_vfyAt (s : State) (k : Nat) : vfyStep (vfyAt s k) = vfyAt s (k + 1) := by
  simp only [vfyAt, State.bytes_succ, csum_concat]
  rfl

section

variable {s : State} (hw : s.waiting) (hlen : s.len.toNat ≤ s.cfg.payloadCap) (ho : s.offers .vfy)
include hw hlen ho

/-- `k` ticks of VFY take the checksum of the first `k` bytes (R89, R224). -/
theorem standsAt_vfyAt {k : Nat} (hk : k ≤ s.len.toNat) (hr : s.noReset (1 + k)) :
    s.standsAt (1 + k) (vfyAt s k) := by
  obtain ⟨-, -, hd⟩ := id hw
  induction k with
  | zero => exact hw.standsAt_latch ho rfl rfl hr
  | succ k ih =>
    refine (ih (by omega) (hr.mono (by omega))).uop (i := .vfy) rfl ⟨rfl, rfl, rfl⟩ hd hr fun n => ?_
    rw [← vfyStep_vfyAt]
    exact (microOp_vfy rfl).trans (vfyTick_of_lt (s := (vfyAt s k).ticked n) hlen hk)

/-- The comparison of VFY ends it (R89, R224). -/
theorem standsAt_vfyFinish (hr : s.noReset (s.len.toNat + 2)) :
    s.standsAt (s.len.toNat + 2) (vfyFinish (vfyAt s s.len.toNat)).done := by
  obtain ⟨-, -, hd⟩ := id hw
  exact (standsAt_vfyAt hw hlen ho le_rfl (hr.mono (by omega))).uop (i := .vfy) (by omega)
    ⟨rfl, rfl, rfl⟩ hd hr fun n =>
      (microOp_vfy rfl).trans (vfyTick_of_eq (s := (vfyAt s s.len.toNat).ticked n) hlen rfl)

end

/-- Settles O26: after LEN checksum steps the comparison, of the pair with the two bytes behind it. -/
theorem vfyRecomputesChecksum : Obligations.VfyRecomputesChecksum := by
  intro s hw hlen hr ho
  have ⟨_, _, hd⟩ := hw
  refine ⟨_, standsAt_vfyFinish hw hlen ho hr, State.done_waiting hd, Prod.mk.eta, ?_,
    State.byteAt_congr rfl rfl rfl, ?_⟩
  · show csumMatches _ _ _ = true ↔ _
    rw [csumMatches_eq_decide, decide_eq_true_iff]
    rfl
  · dsimp only [State.ticked, State.done, vfyFinish, vfyAt, State.latch]
    exact hw.done_eq

end Sys2Proof.Machine

/-! ## Building a frame: a command per byte from a host of any latency (spec/40_frame_codec.md R87;
spec/45_session_host.md R165) -/

namespace Sys2Proof.Machine

/-! ### A command and the quiet ticks after it -/

/-- What the ports show after `k` ticks (log 3). -/
theorem State.port_ticked {s y : State} (k : Nat) (h : y.env = s.env) :
    (y.ticked k).port = s.env.getD k PortIn.quiet := by
  rw [List.getD_eq_getElem?_getD, ← List.head?_drop, ← h, ← List.headD_eq_head?_getD]
  rfl

/-- No reset and no word on the port in the ticks from `m` on and before `n`. -/
def State.quiet (s : State) (m n : Nat) : Prop :=
  ∀ k, m ≤ k → k < n →
    (s.env.getD k PortIn.quiet).rst = false ∧ (s.env.getD k PortIn.quiet).cmdValid = false

/-- An idle core with a quiet port does nothing (R155). -/
theorem step_quiet {s : State} (hb : s.busy = false) (hr : s.port.rst = false)
    (hv : s.port.cmdValid = false) : step s = .next s.endTick := by
  have hwork : s.work = .nothing := by simp [State.work, hb, hr, hv]
  rw [step, hwork]

theorem State.standsAt.idles {s y : State} {n N : Nat} (h : s.standsAt n y) (hb : y.busy = false)
    (henv : y.env = s.env) (hn : n ≤ N) (hq : s.quiet n N) : s.standsAt N y := by
  induction N, hn using Nat.le_induction with
  | base => exact h
  | succ N hn ih =>
    have hy := ih fun k hk hlt => hq k hk (hlt.trans (Nat.lt_succ_self N))
    obtain ⟨hr, hv⟩ := hq N hn (Nat.lt_succ_self N)
    rw [← State.port_ticked N henv] at hr hv
    exact hy.tick (step_quiet hb hr hv)

/-- What a host's command and its latency put on the port (R165). -/
theorem offersThenWaits.port {i : Instr} {n : Nat} {block rest : List PortIn} {s : State}
    (h : offersThenWaits i n block) (henv : s.env = block ++ rest) :
    n + 1 ≤ block.length ∧ s.offers i ∧ s.noReset block.length ∧ s.quiet 1 block.length := by
  cases block with
  | nil => exact h.elim
  | cons p ps =>
    obtain ⟨hr, hvalid, hword, hn, hps⟩ := h
    have hport : s.port = p := by rw [State.port, henv]; rfl
    have hq : s.quiet 1 (p :: ps).length := by
      intro k hk hlt
      obtain ⟨k, rfl⟩ := Nat.exists_eq_add_of_le' hk
      have hlt : k < ps.length := Nat.lt_of_succ_lt_succ hlt
      rw [henv, List.cons_append, List.getD_cons_succ, List.getD_append _ _ _ _ hlt,
        List.getD_eq_getElem _ _ hlt]
      exact hps _ (List.getElem_mem hlt)
    refine ⟨Nat.succ_le_succ hn, ⟨hport ▸ hvalid, hport ▸ hword⟩, fun k hk => ?_, hq⟩
    rcases Nat.eq_zero_or_pos k with rfl | hpos
    · rwa [henv]
    · obtain ⟨hrst, -⟩ := hq k hpos hk
      exact hrst

/-- A command that takes `n` ticks after its acceptance and leaves the core waiting at `y`, offered by a host
that then lets at least these ticks pass. -/
theorem runs_offered {i : Instr} {n : Nat} {block rest : List PortIn} {s y : State}
    (h : offersThenWaits i n block) (henv : s.env = block ++ rest)
    (hrun : s.offers i → s.noReset (1 + n) → s.standsAt (1 + n) y) (hy : y.waiting) (hyenv : y.env = s.env) :
    s.standsAt block.length y ∧ (y.ticked block.length).env = rest := by
  obtain ⟨hlen, ho, hr, hq⟩ := h.port henv
  obtain ⟨hb, -, -⟩ := hy
  have hle : 1 + n ≤ block.length := by omega
  refine ⟨(hrun ho (hr.mono hle)).idles hb hyenv hle fun k hk => hq k (by omega), ?_⟩
  show y.env.drop block.length = rest
  rw [hyenv, henv, List.drop_left]

/-! ### PUTB and BLDE from acceptance to `done` -/

/-- PUTB reads nothing that acceptance and the ticks past write. -/
theorem putbTick_latch_ticked (b : Byte) (s : State) (i : Instr) (k : Nat) :
    putbTick b ((s.latch i).ticked k) = ((putbTick b s).latch i).ticked k := by
  rcases Nat.lt_or_ge s.len.toNat s.cfg.payloadCap with hroom | hfull
  · rw [putbTick_room hroom, putbTick_room (s := (s.latch i).ticked k) hroom]
    rfl
  · rw [putbTick_full hfull, putbTick_full (s := (s.latch i).ticked k) hfull]

theorem State.waiting.standsAt_putb {s : State} {b : Byte} (hw : s.waiting) (ho : s.offers (.putb b))
    (hr : s.noReset 2) : s.standsAt 2 ((putbTick b s).latch (.putb b)).done := by
  have ⟨_, _, hd⟩ := hw
  refine (hw.standsAt_latch ho rfl rfl (hr.mono (by omega))).uop rfl (carries_latch _ s) hd hr fun k => ?_
  rw [microOp_putb rfl, putbTick_latch_ticked]
  rfl

theorem State.waiting.standsAt_blde {s : State} {d : Byte} (hw : s.waiting) (ho : s.offers (.blde d))
    (hlen : s.len.toNat ≤ s.cfg.payloadCap) (hr : s.noReset 2) :
    s.standsAt 2 ((bldeTick d s).latch (.blde d)).done := by
  have ⟨_, _, hd⟩ := hw
  exact (hw.standsAt_latch ho rfl rfl (hr.mono (by omega))).uop rfl (carries_latch _ s) hd hr fun _ =>
    microOp_blde rfl d (trailer_inside hlen)

/-! ### The frame so far -/

/-- The frame holds the text cut to the capacity, with its length, its checksum and zeros behind it (R87). -/
structure BuildsText (text : List Byte) (s : State) : Prop where
  cfg : s.cfg.wf = true
  len : s.len.toNat = min text.length s.cfg.payloadCap
  payload : ∀ k < s.len.toNat, text[k]? = some (s.byteAt k)
  sums : (s.sum1, s.sum2) = csum (text.take s.len.toNat)
  above : ∀ k, s.len.toNat ≤ k → k < bufCap s.cfg → s.byteAt k = 0

theorem BuildsText.len_le {text : List Byte} {s : State} (h : BuildsText text s) :
    s.len.toNat ≤ s.cfg.payloadCap := h.len ▸ min_le_right _ _

/-- Acceptance, `done` and the ticks past touch nothing of the frame. -/
theorem BuildsText.latch_done {text : List Byte} {s : State} (h : BuildsText text s) (i : Instr) (n : Nat) :
    BuildsText text ((s.latch i).done.ticked n) := ⟨h.cfg, h.len, h.payload, h.sums, h.above⟩

/-- BLDS begins with the empty text (R84). -/
theorem buildsText_nil {s : State} (hc : s.cfg.wf = true) (n : Nat) :
    BuildsText [] ((s.latch .blds).emptied.cleared.ticked n) where
  cfg := hc
  len := (Nat.zero_min _).symm
  payload := fun _ hk => absurd hk (Nat.not_lt_zero _)
  sums := rfl
  above := fun _ _ hk => State.byteAt_cleared (s := (s.latch .blds).emptied) hk

/-- With room, PUTB appends its byte to the frame (R85). -/
theorem BuildsText.putb_room {text : List Byte} {s : State} (h : BuildsText text s) (b : Byte)
    (hroom : s.len.toNat < s.cfg.payloadCap) : BuildsText (text ++ [b]) (putbTick b s) := by
  have hlen : s.len.toNat = text.length := by have := h.len; omega
  have hsucc : (s.len + 1).toNat = text.length + 1 := hlen ▸ toNat_len_succ h.cfg hroom
  have hsums : (s.sum1, s.sum2) = csum text := by rw [h.sums, hlen, List.take_length]
  rw [putbTick_room hroom]
  have hread (a : Nat) := s.byteAt_putByte s.len.toNat a b
  constructor
  case cfg => exact h.cfg
  case len =>
    show (s.len + 1).toNat = min (text ++ [b]).length s.cfg.payloadCap
    rw [hsucc, List.length_append, List.length_singleton]
    omega
  case payload =>
    intro k hk
    refine Eq.trans ?_ (congrArg some (hread k).symm)
    have hk : k < text.length + 1 := hsucc ▸ hk
    rcases Nat.lt_succ_iff_lt_or_eq.mp hk with hlt | rfl
    · rw [List.getElem?_append_left hlt, if_neg (by omega), h.payload k (by omega)]
    · rw [List.getElem?_concat_length, if_pos hlen.symm]
  case sums =>
    show csumStep (s.sum1, s.sum2) b = csum ((text ++ [b]).take (s.len + 1).toNat)
    rw [hsucc, List.take_of_length_le (by simp), csum_concat, hsums]
  case above =>
    intro k hk hcap
    have hk : s.len.toNat + 1 ≤ k := by rw [hlen, ← hsucc]; exact hk
    exact (hread k).trans ((if_neg (by omega)).trans (h.above k (by omega) hcap))

/-- Without room, it leaves the frame of the longer text as it is (R85). -/
theorem BuildsText.putb_full {text : List Byte} {s : State} (h : BuildsText text s) (b : Byte)
    (hfull : s.cfg.payloadCap ≤ s.len.toNat) : BuildsText (text ++ [b]) (putbTick b s) := by
  have hlen := h.len
  have hle : s.len.toNat ≤ text.length := by omega
  rw [putbTick_full hfull]
  refine ⟨h.cfg, ?_, fun k hk => ?_, ?_, h.above⟩
  · rw [List.length_append, List.length_singleton]
    omega
  · rw [List.getElem?_append_left (by omega), h.payload k hk]
  · rw [List.take_append_of_le_length hle, h.sums]

theorem BuildsText.putb {text : List Byte} {s : State} (h : BuildsText text s) (b : Byte) :
    BuildsText (text ++ [b]) (putbTick b s) := by
  rcases Nat.lt_or_ge s.len.toNat s.cfg.payloadCap with hroom | hfull
  · exact h.putb_room b hroom
  · exact h.putb_full b hfull

theorem putbTick_waiting {s : State} (hw : s.waiting) (b : Byte) (i : Instr) :
    ((putbTick b s).latch i).done.waiting ∧ ((putbTick b s).latch i).done.env = s.env := by
  obtain ⟨-, -, hd⟩ := hw
  rw [putbTick_frame]
  exact ⟨State.done_waiting hd, rfl⟩

/-- One PUTB of the host and its latency (R85, R165). -/
theorem runs_putb {s : State} {text : List Byte} {b : Byte} {block rest : List PortIn} (hw : s.waiting)
    (hs : BuildsText text s) (hb : offersThenWaits (.putb b) 1 block) (henv : s.env = block ++ rest) :
    ∃ t, runs block.length s = .next t ∧ t.waiting ∧ BuildsText (text ++ [b]) t ∧ t.env = rest := by
  obtain ⟨hy, hyenv⟩ := putbTick_waiting hw b (.putb b)
  obtain ⟨hat, hrest⟩ := runs_offered hb henv hw.standsAt_putb hy hyenv
  exact ⟨_, hat, hy, (hs.putb b).latch_done _ _, hrest⟩

/-- A PUTB for each byte of a text. -/
theorem runs_putbs {more : List Byte} {puts : List (List PortIn)}
    (hputs : List.Forall₂ (fun b ps => offersThenWaits (.putb b) 1 ps) more puts) {s : State}
    {text : List Byte} {rest : List PortIn} (hw : s.waiting) (hs : BuildsText text s)
    (henv : s.env = puts.flatten ++ rest) :
    ∃ t, runs puts.flatten.length s = .next t ∧ t.waiting ∧ BuildsText (text ++ more) t ∧ t.env = rest := by
  induction hputs generalizing s text with
  | nil => exact ⟨s, rfl, hw, by rwa [List.append_nil], henv⟩
  | @cons b block more puts hb _ ih =>
    rw [List.flatten_cons, List.append_assoc] at henv
    obtain ⟨u, hu, huw, hus, huenv⟩ := runs_putb hw hs hb henv
    obtain ⟨t, ht, htw, hts, htenv⟩ := ih huw hus huenv
    refine ⟨t, ?_, htw, ?_, htenv⟩
    · rw [List.flatten_cons, List.length_append, runs_add _ _ hu, ht]
    · rwa [List.append_assoc, List.singleton_append] at hts

/-- The BLDS of the host and its latency (R84, R165). -/
theorem runs_blds {s : State} {block rest : List PortIn} (hc : s.cfg.wf = true) (hw : s.waiting)
    (hb : offersThenWaits .blds (bufCap s.cfg) block) (henv : s.env = block ++ rest) :
    ∃ t, runs block.length s = .next t ∧ t.waiting ∧ BuildsText [] t ∧ t.env = rest := by
  have ⟨_, _, hd⟩ := hw
  have hy : (s.latch .blds).emptied.cleared.waiting := State.done_waiting hd
  obtain ⟨hat, hrest⟩ := runs_offered hb henv hw.standsAt_blds hy rfl
  exact ⟨_, hat, hy, buildsText_nil hc _, hrest⟩

/-- The BLDE of the host and its latency (R86, R165). -/
theorem runs_blde {s : State} {text : List Byte} {d : Byte} {block rest : List PortIn} (hw : s.waiting)
    (hs : BuildsText text s) (hb : offersThenWaits (.blde d) 1 block) (henv : s.env = block ++ rest) :
    ∃ n, runs block.length s = .next (((bldeTick d s).latch (.blde d)).done.ticked n) := by
  have ⟨_, _, hd⟩ := hw
  have hrun (ho : s.offers (.blde d)) := hw.standsAt_blde ho hs.len_le
  obtain ⟨hat, -⟩ := runs_offered hb henv hrun (State.done_waiting hd) rfl
  exact ⟨_, hat⟩

theorem runs_cfg {n : Nat} {s t : State} (h : runs n s = .next t) : t.cfg = s.cfg :=
  runs_keeps (P := fun u => u.cfg = s.cfg) (fun _ _ hu hstep => (step_cfg hstep).trans hu) rfl h

/-- Settles O23: BLDS begins the frame of the empty text, each PUTB makes it that of one byte more, and BLDE
puts the trailer behind it. -/
theorem buildFrameBuildsFrame : Obligations.BuildFrameBuildsFrame := by
  intro s text d first puts last rest hc hw hfirst hputs hlast henv
  obtain ⟨u, hu, huw, hus, huenv⟩ := runs_blds hc hw hfirst henv
  obtain ⟨v, hv, hvw, hvs, hvenv⟩ := runs_putbs hputs huw hus huenv
  rw [List.nil_append] at hvs
  obtain ⟨n, ht⟩ := runs_blde hvw hvs hlast hvenv
  have ⟨_, _, hd⟩ := hvw
  have hcfg : v.cfg = s.cfg := (runs_cfg hv).trans (runs_cfg hu)
  have hrun : runs (first.length + puts.flatten.length + last.length) s = runs last.length v := by
    rw [Nat.add_assoc, runs_add _ _ hu, runs_add _ _ hv]
  have hread : ∀ a, (((bldeTick d v).latch (.blde d)).done.ticked n).byteAt a = _ := byteAt_bldeTick d v
  refine ⟨_, hrun.trans ht, State.done_waiting hd, hcfg ▸ hvs.len, fun k hk hlt => ?_, hvs.sums, ?_, ?_, ?_,
    fun k hk hcap => ?_⟩
  · have hlt : k < v.len.toNat := hlt
    have hbyte := hvs.payload k hlt
    rw [List.getElem?_eq_getElem hk, Option.some_inj] at hbyte
    rw [hread, if_neg (by omega), if_neg (by omega), if_neg (by omega), hbyte]
  · exact (hread v.len.toNat).trans (by rw [if_neg (by omega), if_neg (by omega), if_pos rfl]; rfl)
  · exact (hread (v.len.toNat + 1)).trans (by rw [if_neg (by omega), if_pos rfl]; rfl)
  · exact (hread (v.len.toNat + 2)).trans (if_pos rfl)
  · have hk : v.len.toNat + 3 ≤ k := hk
    rw [hread, if_neg (by omega), if_neg (by omega), if_neg (by omega)]
    exact hvs.above k (by omega) (hcfg ▸ hcap)

end Sys2Proof.Machine

/-! ## TXF from acceptance to `done` (spec/41_transmitter.md R107, R109, R111) -/

namespace Sys2Proof.Machine

/-- From acceptance on the core is busy in every tick before tick `n` of the run (R111). -/
def State.busyBefore (s : State) (n : Nat) : Prop :=
  ∀ k, 1 ≤ k → k < n → ∃ u, runs k s = .next u ∧ u.busy = true

theorem State.busyBefore_one (s : State) : s.busyBefore 1 := fun _ hk hlt => absurd hk hlt.not_ge

/-- One more tick, in a state of the run that is busy. -/
theorem State.busyBefore.tick {s x : State} {n N : Nat} (h : s.busyBefore n) (hx : s.standsAt n x)
    (hb : x.busy = true) (hN : N = n + 1) : s.busyBefore N := by
  subst hN
  intro k hk hlt
  rcases (Nat.le_of_lt_succ hlt).lt_or_eq with hbefore | rfl
  · exact h k hk hbefore
  · exact ⟨_, hx, hb⟩

/-- The ticks of a hold. -/
theorem State.busyBefore.held {s y : State} {n d N : Nat} {p : Pads} (h : s.busyBefore n)
    (hold : Holds s n d p y) (hN : N = n + d) : s.busyBefore N := by
  subst hN
  intro k hk hlt
  rcases lt_or_ge k n with hbefore | hge
  · exact h k hk hbefore
  · obtain ⟨j, rfl⟩ := Nat.exists_eq_add_of_le hge
    obtain ⟨t, ht, hb, -⟩ := hold.held j (by omega)
    exact ⟨t, ht, hb⟩

/-- The ticks of a hold and the tick of the next write. -/
theorem State.busyBefore.held_tick {s y : State} {n d N : Nat} {p : Pads} (h : s.busyBefore n)
    (hold : Holds s n d p y) (hb : y.busy = true) (hN : N = n + d + 1) : s.busyBefore N :=
  (h.held hold rfl).tick hold.ends hb hN

/-- Behind the last bit of `m` bytes: bit 7 of byte `m`, with PHASE = 0, since `8 m` is even (R107). -/
theorem State.atBit_frameEnd (s : State) (m : Byte) : s.atBit (8 * m.toNat) = s.positioned m 7 false := by
  have hbyte : 8 * m.toNat / 8 = m.toNat := by omega
  have hbit : 8 * m.toNat % 8 = 0 := by omega
  have hphase : decide (8 * m.toNat % 2 = 1) = false := by rw [decide_eq_false_iff_not]; omega
  rw [State.atBit, hbyte, hbit, hphase, BitVec.ofNat_toNat, BitVec.setWidth_eq]
  rfl

/-- What `TXF m` leaves of `s`: both lines driven HIGH, the position behind the frame, its own word in CMDR
and the loop registers of its acceptance (R107, R109, R155). -/
def txfDone (s : State) (m : Byte) : State :=
  { s.idled with
    pads := ⟨true, true, true, true⟩
    byteIdx := m
    bitIdx := 7
    phase := false
    cmdr := encode (.txf m)
    loopIdx := 0
    acc1 := 0
    acc2 := 0 }

/-- The hold of TF_STOP_HI ends the command (R107, R108). -/
theorem txfBit_done (s : State) (m : Byte) :
    (txfBit s m .tfStopHi (8 * m.toNat) true true).done = txfDone s m := by
  rw [txfBit, State.atBit_frameEnd]
  dsimp only [txfDone, txfAt, State.positioned, State.latch, State.done, State.idled]

section

variable {s : State} {m : Byte} (hacc : TakesUp s (.txf m))

include hacc

/-- TXF is busy from its acceptance until `k` bits are sent (R108). -/
theorem txf_cells_busy {k : Nat} (hk : k ≤ 8 * m.toNat)
    (hr : s.noReset (4 + 3 * holdTicks s.cfg + k * (2 + holdTicks s.cfg))) :
    s.busyBefore (4 + 3 * holdTicks s.cfg + k * (2 + holdTicks s.cfg) + 1) := by
  induction k with
  | zero =>
    obtain ⟨hdrive, hlow, hhigh⟩ := txf_start hacc (hr.mono (by omega))
    have haccepted : s.busyBefore 2 :=
      s.busyBefore_one.tick (hacc.standsAt_latch (hr.mono (by omega))) rfl rfl
    have hlowBusy : s.busyBefore (4 + 2 * holdTicks s.cfg) :=
      (haccepted.held_tick hdrive rfl (by omega)).held_tick hlow rfl (by omega)
    exact hlowBusy.held_tick hhigh rfl (by omega)
  | succ k ih =>
    rw [Nat.succ_mul k] at hr ⊢
    have hbusy := ih (by omega) (hr.mono (by omega))
    obtain ⟨dat, hat⟩ := txf_cells hacc (Nat.le_of_succ_le hk) (hr.mono (by omega))
    obtain ⟨hdata, hclock⟩ := txf_cell hacc hat hk (hr.mono (by omega))
    exact (hbusy.tick hdata rfl rfl).held_tick hclock rfl (by omega)

end

/-- Settles O34: after `8 m` cells come the three holds of the end, and the last of them ends the command. -/
theorem txfCompletesOnTime : Obligations.TxfCompletesOnTime := by
  intro s m hcfg hwait hbound hm hoff
  dsimp only
  intro hr
  have hacc : TakesUp s (.txf m) := ⟨hcfg, hwait, hbound, decide_eq_true hm, hoff⟩
  have hbits : s.busyBefore _ := txf_cells_busy hacc le_rfl (hr.mono (by omega))
  obtain ⟨dat, hat⟩ := txf_cells hacc le_rfl (hr.mono (by omega))
  obtain ⟨hforce, hlow, hhigh⟩ := txf_stop hacc hat (hr.mono (by omega))
  have hend : s.standsAt _ (txfDone s m) := txfBit_done s m ▸ hhigh.ends
  exact ⟨((hbits.held_tick hforce rfl (by omega)).held_tick hlow rfl (by omega)).held hhigh (by omega),
    _, hend.cast (by omega), ⟨rfl, rfl, rfl⟩, rfl, rfl, rfl, rfl, fun _ => rfl, hwait.idled_eq⟩

end Sys2Proof.Machine

/-! ## One tick of TXF (spec/41_transmitter.md R101 to R108) -/

namespace Sys2Proof.Machine

/-- In a legal configuration a hold takes ticks, so DLYCNT is loaded (R5, R21). -/
theorem txfHold_eq (m : Byte) {s : State} (hc : s.cfg.wf = true) :
    txfHold m s = .next { s with dlyCnt := holdTicks s.cfg } :=
  congrArg _ (if_neg (holdTicks_pos hc).ne')

section

variable {s : State} {m : Byte}

/-- A tick of TXF whose micro-operation writes `u` and holds it (R108). -/
theorem exec_txf_hold {u : State} {q : Seq} (hat : s.atUop q) (hc : u.cfg.wf = true)
    (hop : s.st = q → txfUop m s = txfHold m u) :
    exec (.txf m) s = .next { u with dlyCnt := holdTicks u.cfg } := by
  obtain ⟨hb, hst, hd⟩ := hat
  exact (exec_uop _ hb hd).trans ((hop hst).trans (txfHold_eq m hc))

/-- The DATA write of a bit has no hold: the CLOCK write follows in the next tick (R103). -/
theorem exec_txf_bitData (hat : s.atUop .tfBitData) (hidx : s.byteIdx.toNat < bufCap s.cfg) :
    exec (.txf m) s =
      .next ((s.writeData (bitOf (s.byteAt s.byteIdx.toNat) s.bitIdx)).goto .tfBitClock) := by
  obtain ⟨hb, hst, hd⟩ := hat
  rw [exec_uop _ hb hd]
  simp only [microOp, txfUop, hst]
  exact withIndex_of_lt hidx _

end

/-- Settles O32: every state but TF_BIT_DATA writes its registers and holds. -/
theorem txfMicroOperations : Obligations.TxfMicroOperations := by
  intro m s hc
  refine ⟨fun h => exec_txf_hold (u := s.driveBothHigh) h hc ?_,
    fun h => exec_txf_hold (u := s.writeData false) h hc ?_,
    fun h => exec_txf_hold (u := { s.writeData true with phase := false, byteIdx := 0, bitIdx := 7 }) h hc ?_,
    exec_txf_bitData,
    fun h => exec_txf_hold (u := s.clockPhase.advanceBit) h hc ?_,
    fun h => exec_txf_hold (u := s.writeData true) h hc ?_,
    fun h => exec_txf_hold (u := s.writeClock true) h hc ?_,
    fun h => exec_txf_hold (u := s.writeData false) h hc ?_,
    fun h => exec_txf_hold (u := s.writeData true) h hc ?_⟩
  all_goals
    intro hst
    simp only [txfUop, hst]

/-- The loop test is a choice of the next state alone (R103). -/
theorem txfLoop_eq_goto (m : Byte) (s : State) :
    txfLoop m s = s.goto (if s.byteIdx.toNat < m.toNat then .tfBitData else .tfForce) :=
  (apply_ite s.goto _ _ _).symm

/-- In its last tick a delay goes where the command goes after it (R21). -/
theorem exec_delayEnd (i : Instr) {s : State} (hb : s.busy = true) (hd : s.dlyCnt = 1) :
    exec i s = .next (afterDelay i { s with dlyCnt := 0 }) := by
  rw [exec_countDown i hb (by omega), State.countDown, if_pos hd]

/-- Settles O33: the end of a hold goes where `txfAfter` says: by the loop test behind a start or a bit, by
PHASE behind TF_FORCE, to one state from every other. -/
theorem txfMovesOnAfterHold : Obligations.TxfMovesOnAfterHold := by
  intro m s hb hd
  rw [exec_delayEnd _ hb hd]
  dsimp only [afterDelay]
  refine ⟨?drive, ?startLo, ?bits, ?force, ?norm, ?stopLo, ?stopHi⟩ <;> intro hst
  case bits => rcases hst with hst | hst <;> simp only [txfAfter, hst, txfLoop_eq_goto, State.goto]
  case force => cases s.phase <;> simp [txfAfter, hst, State.goto]
  all_goals simp only [txfAfter, hst, State.goto, State.done]

end Sys2Proof.Machine

/-! ## One tick of RXF (spec/42_receiver.md R121 to R130) -/

namespace Sys2Proof.Machine

section

variable {s : State}

/-- A tick of RXF without a pending delay is the micro-operation of its state (R133). -/
theorem exec_rxf_uop {q : Seq} (hat : s.atUop q) : exec .rxf s = rxfUop s := by
  obtain ⟨hb, -, hd⟩ := hat
  exact exec_uop .rxf hb hd

theorem exec_rxf_release (hat : s.atUop .rfRelease) : exec .rxf s = .next ((rxfEntry s).goto .rfSeed) := by
  have ⟨_, hst, _⟩ := hat
  rw [exec_rxf_uop hat]
  simp only [rxfUop, hst]

theorem exec_rxf_seed (hat : s.atUop .rfSeed) :
    exec .rxf s = .next (s.sample2.saveEdge.goto .rfAwaitData) := by
  have ⟨_, hst, _⟩ := hat
  rw [exec_rxf_uop hat]
  simp only [rxfUop, hst]

/-- RF_AWAIT_DATA samples, and ends at a DATA level other than the saved one (R123). -/
theorem exec_rxf_awaitData (hat : s.atUop .rfAwaitData) :
    exec .rxf s = .next (s.sample2.goto
      (if s.levelAs .datCurr .data = s.datPrev then .rfAwaitData else .rfAwaitClock)) := by
  have ⟨_, hst, _⟩ := hat
  rw [exec_rxf_uop hat]
  simp only [rxfUop, hst, State.sample2_datCurr, State.sample2_datPrev, bne_iff_ne, ite_not]
  split_ifs
  · rw [← hst]; rfl
  · rfl

/-- RF_AWAIT_CLOCK samples, and ends at a CLOCK level other than the saved one (R124). -/
theorem exec_rxf_awaitClock (hat : s.atUop .rfAwaitClock) :
    exec .rxf s = .next (s.sample2.goto
      (if s.levelAs .sigCurr .clock = s.sigPrev then .rfAwaitClock else .rfEdgeWait)) := by
  have ⟨_, hst, _⟩ := hat
  rw [exec_rxf_uop hat]
  simp only [rxfUop, hst, State.sample2_sigCurr, State.sample2_sigPrev, bne_iff_ne, ite_not]
  split_ifs
  · rw [← hst]; rfl
  · rfl

/-- An edge event is a level other than the saved one on either line (R125). -/
theorem edgeEvent_iff : edgeEvent s = true ↔ s.sigCurr ≠ s.sigPrev ∨ s.datCurr ≠ s.datPrev := by
  simp [edgeEvent]

/-- RF_EDGE_WAIT without an edge event samples and stays (R125). -/
theorem exec_rxf_noEdge (hat : s.atUop .rfEdgeWait) (hclk : s.levelAs .sigCurr .clock = s.sigPrev)
    (hdat : s.levelAs .datCurr .data = s.datPrev) : exec .rxf s = .next s.sample2 := by
  have ⟨_, hst, _⟩ := hat
  have hedge : ¬ edgeEvent s.sample2 = true := by simp [edgeEvent_iff, hclk, hdat]
  rw [exec_rxf_uop hat]
  simp only [rxfUop, hst, if_neg hedge]

/-- An edge event starts the settle delay, or leads to RF_SAMPLE at once when there is none (R125, R126). -/
theorem exec_rxf_edge (hat : s.atUop .rfEdgeWait)
    (hne : s.levelAs .sigCurr .clock ≠ s.sigPrev ∨ s.levelAs .datCurr .data ≠ s.datPrev) :
    exec .rxf s = .next ((s.sample2.goto .rfSettle).delay (settleTicks s.cfg) rxfAfter) := by
  have ⟨_, hst, _⟩ := hat
  have hedge : edgeEvent s.sample2 = true := edgeEvent_iff.mpr hne
  rw [exec_rxf_uop hat]
  simp only [rxfUop, hst, if_pos hedge]
  rfl

/-- RF_SAMPLE at the stop condition ends the frame (R128). -/
theorem exec_rxf_sample_stop (hat : s.atUop .rfSample) (hstop : stopCondition s.sample2 = true) :
    exec .rxf s = .next (rxfFinish { s.sample2 with frameEnd := true }) := by
  have ⟨_, hst, _⟩ := hat
  rw [exec_rxf_uop hat]
  simp only [rxfUop, hst]
  exact if_pos hstop

/-- The payload length and SHORT after a frame (R130). -/
theorem rxfFinish_length (s : State) :
    (3 ≤ s.byteIdx.toNat →
        (rxfFinish s).len.toNat = s.byteIdx.toNat - 3 ∧ (rxfFinish s).short = s.short) ∧
      (s.byteIdx.toNat < 3 → (rxfFinish s).len = 0 ∧ (rxfFinish s).short = true) := by
  refine ⟨fun h => ⟨?_, if_pos h⟩, fun h => ⟨if_neg h.not_ge, if_neg h.not_ge⟩⟩
  show (if 3 ≤ s.byteIdx.toNat then s.byteIdx - 3 else 0).toNat = _
  rw [if_pos h]
  bv_omega

end

/-- Settles O37: the entry and the seed are one micro-operation each. -/
theorem rxfReleasesAndSeeds : Obligations.RxfReleasesAndSeeds := fun _ =>
  ⟨exec_rxf_release, exec_rxf_seed⟩

/-- Settles O38: each wait by whether the levels compared differ; the settle delay by whether it has
ticks. -/
theorem rxfWaitsForLevelDifference : Obligations.RxfWaitsForLevelDifference := by
  intro s c d settle
  refine ⟨exec_rxf_awaitData, exec_rxf_awaitClock, exec_rxf_noEdge, fun hat hne => ?_, fun hb hst hd => ?_⟩
  · have ⟨_, _, hd⟩ := hat
    rw [exec_rxf_edge hat hne]
    rcases State.delay_cases (s.sample2.goto .rfSettle) settle rxfAfter with ⟨h0, he⟩ | ⟨h0, he⟩
    · rw [if_pos h0, h0, ← hd]
      exact congrArg _ he
    · rw [if_neg h0]
      exact congrArg _ he
  · rw [exec_delayEnd .rxf hb hd]
    simp only [afterDelay, rxfAfter, hst, State.goto]

/-- Settles O39: the end of the frame writes FRAMEEND, LEN and SHORT over the fresh sample. -/
theorem rxfStopConditionEndsFrame : Obligations.RxfStopConditionEndsFrame := by
  intro s hat hdat hdatPrev hsigPrev hclk
  have hstop : stopCondition s.sample2 = true := stopCondition_iff.mpr ⟨hdat, hdatPrev, hsigPrev, hclk⟩
  obtain ⟨hlong, hrunt⟩ := rxfFinish_length { s.sample2 with frameEnd := true }
  exact ⟨_, exec_rxf_sample_stop hat hstop, rfl, hclk, hdat, hlong, hrunt, rfl, rfl, fun _ => rfl, rfl⟩

end Sys2Proof.Machine

/-! ## Waiting for a level (spec/42_receiver.md R123 to R125, R132; spec/43_acknowledgment.md R147, R150) -/

namespace Sys2Proof.Machine

/-- A device that does not drive a line reads there what the others show for certain (R47). -/
theorem State.levelAs_of_shows {s : State} {l : Line} {v : Level} (who : Sampler)
    (hoe : s.pads.oe l = false) (h : s.port.shows l v) : s.levelAs who l = v := by
  have hown : s.pads.drives l = none := by
    cases l <;> simpa [Pads.drives, Pads.oe] using hoe
  have hothers : drivers l (s.pads :: s.port.peers) = drivers l s.port.peers :=
    List.filterMap_cons_none hown
  rw [State.levelAs, State.busLevel, hothers]
  exact h _

/-- The other devices show the two levels for certain in tick `k` of a run from `s`. -/
def State.hears (s : State) (k : Nat) (clk dat : Level) : Prop :=
  (s.env.getD k PortIn.quiet).shows .clock clk ∧ (s.env.getD k PortIn.quiet).shows .data dat

/-- What a device samples that has released both lines (R47, R121). -/
theorem State.levels_of_shows {s : State} {clk dat : Level} (hrel : releasedBoth s)
    (h : s.port.shows .clock clk ∧ s.port.shows .data dat) :
    s.levelAs .sigCurr .clock = clk ∧ s.levelAs .datCurr .data = dat := by
  obtain ⟨hclk, hdat⟩ := hrel
  exact ⟨s.levelAs_of_shows .sigCurr hclk h.1, s.levelAs_of_shows .datCurr hdat h.2⟩

/-- RXA without a toggle of CLOCK samples and stays (R147). -/
theorem exec_rxa_noToggle {s : State} (hat : s.atUop .raAwaitClock)
    (hclk : s.levelAs .sigCurr .clock = s.sigPrev) : exec .rxa s = .next s.sample2 := by
  obtain ⟨hb, hst, hd⟩ := hat
  rw [exec_uop .rxa hb hd]
  simp [microOp, rxaUop, hst, hclk]

/-- The command stands in one of its waits, and the lines it awaits keep their saved levels. -/
def keepsAwaited (i : Instr) (s : State) (p : PortIn) : Prop :=
  i = .rxf ∧ s.st = .rfAwaitData ∧ p.shows .data s.datPrev ∨
  i = .rxf ∧ s.st = .rfAwaitClock ∧ p.shows .clock s.sigPrev ∨
  i = .rxf ∧ s.st = .rfEdgeWait ∧ p.shows .clock s.sigPrev ∧ p.shows .data s.datPrev ∨
  i = .rxa ∧ s.st = .raAwaitClock ∧ p.shows .clock s.sigPrev

/-- One tick of a wait whose lines keep their levels is a sample and nothing else. -/
theorem exec_keepsAwaited {i : Instr} {s : State} (hb : s.busy = true) (hd : s.dlyCnt = 0)
    (hrel : releasedBoth s) (h : keepsAwaited i s s.port) : exec i s = .next s.sample2 := by
  obtain ⟨hclkOe, hdatOe⟩ := hrel
  rcases h with ⟨rfl, hst, hdat⟩ | ⟨rfl, hst, hclk⟩ | ⟨rfl, hst, hclk, hdat⟩ | ⟨rfl, hst, hclk⟩
  · rw [exec_rxf_awaitData ⟨hb, hst, hd⟩, if_pos (State.levelAs_of_shows (l := .data) _ hdatOe hdat), ← hst]
    rfl
  · rw [exec_rxf_awaitClock ⟨hb, hst, hd⟩, if_pos (State.levelAs_of_shows (l := .clock) _ hclkOe hclk), ← hst]
    rfl
  · exact exec_rxf_noEdge ⟨hb, hst, hd⟩ (State.levelAs_of_shows _ hclkOe hclk)
      (State.levelAs_of_shows _ hdatOe hdat)
  · exact exec_rxa_noToggle ⟨hb, hst, hd⟩ (State.levelAs_of_shows _ hclkOe hclk)

/-- The state with these fresh samples (R9, R14). -/
def State.sampled (s : State) (clk dat : Level) : State := { s with sigCurr := clk, datCurr := dat }

/-- While the awaited lines keep their levels, only the fresh samples change. -/
theorem State.standsAt.waits {i : Instr} {s x : State} {n : Nat} (d : Nat) (h : s.standsAt n x)
    (hx : Carries i s x) (hdly : x.dlyCnt = 0) (hrel : releasedBoth x) (hr : s.noReset (n + d))
    (hkept : ∀ k, n ≤ k → k < n + d → keepsAwaited i x (s.env.getD k PortIn.quiet)) :
    ∃ clk dat, s.standsAt (n + d) (x.sampled clk dat) := by
  induction d with
  | zero => exact ⟨x.sigCurr, x.datCurr, h⟩
  | succ d ih =>
    obtain ⟨clk, dat, hat⟩ := ih (hr.mono (by omega)) fun k hk hlt => hkept k hk (by omega)
    have hlast := hkept (n + d) (by omega) (by omega)
    rw [← State.port_ticked (y := x.sampled clk dat) (n + d) hx.env] at hlast
    have hexec : exec i ((x.sampled clk dat).ticked (n + d)) =
        .next ((x.sampled clk dat).ticked (n + d)).sample2 := exec_keepsAwaited hx.busy hdly hrel hlast
    have hsampled : Carries i s (x.sampled clk dat) := ⟨hx.busy, hx.word, hx.env⟩
    exact ⟨_, _, hat.tick (hsampled.step hr hexec)⟩

/-- Settles O41: one lemma for the four waits, from the first tick on. -/
theorem receiversWaitWithoutBound : Obligations.ReceiversWaitWithoutBound := by
  intro n s hb hd hrel hr hwait
  have hkept : ∃ i, decode s.cmdr = .ok i ∧ ∀ k < n, keepsAwaited i s (s.env.getD k PortIn.quiet) := by
    rcases hwait with ⟨hi, hst, h⟩ | ⟨hi, hst, h⟩ | ⟨hi, hst, h⟩ | ⟨hi, hst, h⟩
    · exact ⟨_, hi, fun k hk => .inl ⟨rfl, hst, h k hk⟩⟩
    · exact ⟨_, hi, fun k hk => .inr (.inl ⟨rfl, hst, h k hk⟩)⟩
    · exact ⟨_, hi, fun k hk => .inr (.inr (.inl ⟨rfl, hst, h k hk⟩))⟩
    · exact ⟨_, hi, fun k hk => .inr (.inr (.inr ⟨rfl, hst, h k hk⟩))⟩
  obtain ⟨i, hi, hkept⟩ := hkept
  have hrun : Carries i s s := ⟨hb, (encode_of_decode hi).symm, rfl⟩
  obtain ⟨clk, dat, hat⟩ := State.standsAt.waits (s := s) (x := s) (n := 0) n rfl hrun hd hrel
    (by rwa [Nat.zero_add]) fun k _ hk => hkept k (by omega)
  rw [Nat.zero_add] at hat
  exact ⟨_, hat, rfl, hb, fun _ => rfl, rfl⟩

end Sys2Proof.Machine

/-! ## RXF as it hears a frame (spec/42_receiver.md R121 to R130, R134) -/

namespace Sys2Proof.Machine

/-! ### One bit -/

/-- Writing bit `k` of a frame changes that bit and no other (R43, R61). -/
theorem State.wireBit_putBit (s : State) (j k : Nat) (v : Level) :
    (s.putBit (k / 8) (BitVec.ofNat 3 (7 - k % 8)) v).wireBit j = if j = k then v else s.wireBit j := by
  unfold State.wireBit
  by_cases hbyte : j / 8 = k / 8
  · have hbit : BitVec.ofNat 3 (7 - j % 8) = BitVec.ofNat 3 (7 - k % 8) ↔ j = k := by
      rw [← BitVec.toNat_inj, BitVec.toNat_ofNat, BitVec.toNat_ofNat]
      omega
    rw [hbyte, State.bitOf_byteAt_putBit, if_congr hbit rfl rfl]
  · rw [State.byteAt_putBit_of_ne hbyte, if_neg fun hjk => hbyte (congrArg (· / 8) hjk)]

/-- A byte is its eight bits on the wire (R61). -/
theorem byteAt_eq_of_wireBit {s t : State} {i : Nat} (h : ∀ j, j / 8 = i → s.wireBit j = t.wireBit j) :
    s.byteAt i = t.byteAt i := by
  apply BitVec.eq_of_getLsbD_eq
  intro b hb
  have hbit := h (8 * i + (7 - b)) (by omega)
  simp only [State.wireBit, bitOf, BitVec.toNat_ofNat, show (8 * i + (7 - b)) / 8 = i by omega,
    show (7 - (8 * i + (7 - b)) % 8) % 2 ^ 3 = b by omega] at hbit
  exact hbit

/-- After `k` bits RXF stands in state `q` of a run from `s`, at the position of bit `k`, with these levels
saved, the bits before in the buffer and no result flag set (R121, R129). -/
structure ReceivesAt (s : State) (q : Seq) (bits : Nat → Level) (k : Nat) (clk dat : Level) (x : State) :
    Prop where
  carries : Carries .rxf s x
  noDelay : x.dlyCnt = 0
  st : x.st = q
  cfg : x.cfg = s.cfg
  released : releasedBoth x
  flags : x.ovf = false ∧ x.short = false
  position : x.byteIdx = BitVec.ofNat 8 (k / 8) ∧ x.bitIdx = BitVec.ofNat 3 (7 - k % 8)
  saved : x.sigPrev = clk ∧ x.datPrev = dat
  stored : ∀ j < k, x.wireBit j = bits j

section

variable {s x : State} {q : Seq} {bits : Nat → Level} {n N k : Nat} {sig dat clk d : Level}

theorem ReceivesAt.sampled (h : ReceivesAt s q bits k sig dat x) (clk d : Level) :
    ReceivesAt s q bits k sig dat (x.sampled clk d) :=
  ⟨⟨h.carries.busy, h.carries.word, h.carries.env⟩, h.noDelay, h.st, h.cfg, h.released, h.flags, h.position,
    h.saved, h.stored⟩

theorem ReceivesAt.goto (h : ReceivesAt s q bits k sig dat x) (q' : Seq) :
    ReceivesAt s q' bits k sig dat (x.goto q') :=
  ⟨⟨h.carries.busy, h.carries.word, h.carries.env⟩, h.noDelay, rfl, h.cfg, h.released, h.flags, h.position,
    h.saved, h.stored⟩

theorem ReceivesAt.atUop (h : ReceivesAt s q bits k sig dat x) (n : Nat) : (x.ticked n).atUop q :=
  ⟨h.carries.busy, h.st, h.noDelay⟩

theorem ReceivesAt.withDelay_zero (h : ReceivesAt s q bits k sig dat x) : x.withDelay 0 = x := by
  rw [State.withDelay, ← h.noDelay]

/-- A sample in tick `n` is what the device hears then (R48). -/
theorem State.hears.sample2 (h : s.hears n clk d) (henv : x.env = s.env) (hrel : releasedBoth x) :
    (x.ticked n).sample2 = (x.sampled clk d).ticked n := by
  rw [State.hears, ← State.port_ticked n henv] at h
  obtain ⟨hclk, hdat⟩ := State.levels_of_shows (s := x.ticked n) hrel h
  rw [State.sample2, hclk, hdat]
  rfl

theorem ReceivesAt.sample2 (h : ReceivesAt s q bits k sig dat x) (hh : s.hears n clk d) :
    (x.ticked n).sample2 = (x.sampled clk d).ticked n := hh.sample2 h.carries.env h.released

theorem ReceivesAt.levels (h : ReceivesAt s q bits k sig dat x) (hh : s.hears n clk d) :
    (x.ticked n).levelAs .sigCurr .clock = clk ∧ (x.ticked n).levelAs .datCurr .data = d := by
  have hsample := h.sample2 hh
  exact ⟨congrArg State.sigCurr hsample, congrArg State.datCurr hsample⟩

variable (hr : ∀ n, s.noReset n)

include hr

theorem ReceivesAt.tick {y : State} (h : ReceivesAt s q bits k sig dat x) (hx : s.standsAt n x)
    (hexec : exec .rxf (x.ticked n) = .next (y.ticked n)) : s.standsAt (n + 1) y :=
  hx.tick (h.carries.step (hr _) hexec)

/-- RXF in a wait until tick `N` (R123 to R125). -/
theorem ReceivesAt.waits (h : ReceivesAt s q bits k sig dat x) (hx : s.standsAt n x) (hN : n ≤ N)
    (hkept : ∀ j, n ≤ j → j < N → keepsAwaited .rxf x (s.env.getD j PortIn.quiet)) :
    ∃ y, s.standsAt N y ∧ ReceivesAt s q bits k sig dat y := by
  obtain ⟨d, rfl⟩ := Nat.exists_eq_add_of_le hN
  obtain ⟨clk, dat, hat⟩ := hx.waits d h.carries h.noDelay h.released (hr _) hkept
  exact ⟨_, hat, h.sampled clk dat⟩

/-- RF_EDGE_WAIT until tick `N`, with both lines at the saved levels (R125). -/
theorem ReceivesAt.waitsForEdge (h : ReceivesAt s .rfEdgeWait bits k sig dat x) (hx : s.standsAt n x)
    (hN : n ≤ N) (hh : ∀ j, n ≤ j → j < N → s.hears j sig dat) :
    ∃ y, s.standsAt N y ∧ ReceivesAt s .rfEdgeWait bits k sig dat y := by
  obtain ⟨hsig, hdat⟩ := h.saved
  refine h.waits hr hx hN fun j hj hlt => .inr (.inr (.inl ⟨rfl, h.st, ?_⟩))
  rw [hsig, hdat]
  exact hh j hj hlt

/-- An edge event leads to RF_SAMPLE, after the settle delay (R125, R126). -/
theorem ReceivesAt.settles (h : ReceivesAt s .rfEdgeWait bits k sig dat x) (hx : s.standsAt n x)
    (hh : s.hears n clk d) (hne : clk ≠ sig ∨ d ≠ dat) :
    ∃ y, s.standsAt (n + 1 + settleTicks s.cfg) y ∧ ReceivesAt s .rfSample bits k sig dat y := by
  obtain ⟨hclk, hdat⟩ := h.levels hh
  obtain ⟨hsigPrev, hdatPrev⟩ := h.saved
  have hexec : exec .rxf (x.ticked n) = .next
      ((((x.sampled clk d).goto .rfSettle).ticked n).delay (settleTicks s.cfg) rxfAfter) := by
    rw [exec_rxf_edge (h.atUop n) (hclk ▸ hdat ▸ hsigPrev ▸ hdatPrev ▸ hne), h.sample2 hh,
      show (x.ticked n).cfg = s.cfg from h.cfg]
    rfl
  have hy := ((h.sampled clk d).goto .rfSettle).goto .rfSample
  rcases State.delay_cases (((x.sampled clk d).goto .rfSettle).ticked n) (settleTicks s.cfg) rxfAfter with
    ⟨h0, he⟩ | ⟨h0, he⟩ <;> rw [he] at hexec
  · exact ⟨_, h0 ▸ h.tick hr hx hexec, hy⟩
  · have hload : s.standsAt (n + 1) (((x.sampled clk d).goto .rfSettle).withDelay (settleTicks s.cfg)) :=
      h.tick hr hx hexec
    have hsettle := (h.sampled clk d).goto .rfSettle
    have hdelay := hload.holds (y := ((x.sampled clk d).goto .rfSettle).goto .rfSample) hsettle.carries h0
      (hr _) fun _ => hsettle.withDelay_zero.symm ▸ rfl
    exact ⟨_, hdelay.ends, hy⟩

/-- A sample that is no stop condition stores its DATA level as bit `k` (R129). -/
theorem ReceivesAt.stores (h : ReceivesAt s .rfSample bits k sig dat x) (hx : s.standsAt n x)
    (hh : s.hears n clk d) (hc : s.cfg.wf = true) (hroom : (k + 1) / 8 < bufCap s.cfg)
    (hstop : ¬ (d = false ∧ dat = true ∧ sig = true ∧ clk = true)) (hbit : bits k = d) :
    ∃ y, s.standsAt (n + 1) y ∧ ReceivesAt s .rfEdgeWait bits (k + 1) clk d y := by
  obtain ⟨hbyteIdx, hbitIdx⟩ := h.position
  have hcap : bufCap s.cfg ≤ 255 := Nat.add_le_add_right (payloadCap_le hc) 3
  have hindex : x.byteIdx.toNat = k / 8 := by rw [hbyteIdx, BitVec.toNat_ofNat]; omega
  have hnextByte : (rxfStored (x.sampled clk d)).byteIdx = BitVec.ofNat 8 ((k + 1) / 8) := by
    rw [← bytePosition_succ, ← hbitIdx, ← hbyteIdx]
    rfl
  have hnextBit : (rxfStored (x.sampled clk d)).bitIdx = BitVec.ofNat 3 (7 - (k + 1) % 8) := by
    rw [← bitPosition_succ, ← hbitIdx]
    rfl
  have hlt : (rxfStored (x.sampled clk d)).byteIdx.toNat < bufCap s.cfg := by
    rw [hnextByte, BitVec.toNat_ofNat]
    omega
  have hwire (j : Nat) : (rxfStored (x.sampled clk d)).wireBit j = if j = k then d else x.wireBit j := by
    rw [← State.wireBit_putBit x j k d, ← hindex, ← hbitIdx]
    rfl
  have hexec : exec .rxf (x.ticked n) =
      .next (((rxfStored (x.sampled clk d)).goto .rfEdgeWait).ticked n) := by
    rw [exec_rxf_sample_store (h.atUop n), h.sample2 hh]
    · refine congrArg _ (rxfGuard_of_lt (s := (rxfStored (x.sampled clk d)).ticked n) ?_)
      exact hlt.trans_eq (congrArg bufCap h.cfg.symm)
    · show x.byteIdx.toNat < bufCap x.cfg
      rw [hindex, h.cfg]
      omega
    · rw [Ne, stopCondition_iff, h.sample2 hh]
      obtain ⟨hsigPrev, hdatPrev⟩ := h.saved
      exact hsigPrev ▸ hdatPrev ▸ hstop
  refine ⟨_, h.tick hr hx hexec, ⟨⟨h.carries.busy, h.carries.word, h.carries.env⟩, h.noDelay, rfl, h.cfg,
    h.released, h.flags, ⟨hnextByte, hnextBit⟩, ⟨rfl, rfl⟩, fun j hj => (hwire j).trans ?_⟩⟩
  split_ifs with hjk
  · rw [hjk, hbit]
  · exact h.stored j (by omega)

/-- An edge event, the settle delay and the store of bit `k` (R125 to R129). -/
theorem ReceivesAt.catches {c' d' : Level} (h : ReceivesAt s .rfEdgeWait bits k sig dat x)
    (hx : s.standsAt n x) (hh : s.hears n c' d') (hne : c' ≠ sig ∨ d' ≠ dat)
    (hsample : s.hears (n + 1 + settleTicks s.cfg) clk d) (hc : s.cfg.wf = true)
    (hroom : (k + 1) / 8 < bufCap s.cfg)
    (hstop : ¬ (d = false ∧ dat = true ∧ sig = true ∧ clk = true)) (hbit : bits k = d) :
    ∃ y, s.standsAt (n + 2 + settleTicks s.cfg) y ∧ ReceivesAt s .rfEdgeWait bits (k + 1) clk d y := by
  obtain ⟨y, hy, hat⟩ := h.settles hr hx hh hne
  obtain ⟨z, hz, hstored⟩ := hat.stores hr hy hsample hc hroom hstop hbit
  exact ⟨z, hz.cast (by omega), hstored⟩

end

/-! ### The start condition -/

/-- The tick before which TXF, of this hold and begun in tick 0, has written DATA of bit `k` (R108). -/
def cellStart (tf k : Nat) : Nat := 4 + 3 * tf + k * (2 + tf)

theorem cellStart_zero (tf : Nat) : cellStart tf 0 = 4 + 3 * tf := by simp [cellStart]

theorem cellStart_succ (tf k : Nat) : cellStart tf (k + 1) = cellStart tf k + 2 + tf := by
  rw [cellStart, cellStart, Nat.succ_mul k]
  omega

/-- From tick 0 of a run the device hears the `n` bits of a TXF with this hold: the start condition, the bit
cells, and the end up to the stop condition (R62 to R64, R108). -/
structure HearsFrame (s : State) (tf n : Nat) (bits : Nat → Level) : Prop where
  preamble : ∀ j ≤ tf, s.hears (1 + j) true true
  startLow : ∀ j ≤ tf, s.hears (2 + tf + j) true false
  startHigh : ∀ j ≤ tf, s.hears (3 + 2 * tf + j) true true
  data : ∀ k < n, s.hears (cellStart tf k) (decide (k % 2 = 0)) (bits k)
  clock : ∀ k < n, ∀ j ≤ tf, s.hears (cellStart tf k + 1 + j) (decide (k % 2 = 1)) (bits k)
  force : ∀ j ≤ tf, s.hears (cellStart tf n + j) true true
  stopLow : ∀ j ≤ tf, s.hears (cellStart tf n + 1 + tf + j) true false

section

variable {s x : State} {bits : Nat → Level} {n k : Nat} {sig dat clk d : Level} (hr : ∀ n, s.noReset n)

include hr

/-- RF_AWAIT_DATA ends when DATA differs (R123). -/
theorem ReceivesAt.dataDiffers (h : ReceivesAt s .rfAwaitData bits k sig dat x) (hx : s.standsAt n x)
    (hh : s.hears n clk d) (hne : d ≠ dat) :
    ∃ y, s.standsAt (n + 1) y ∧ ReceivesAt s .rfAwaitClock bits k sig dat y := by
  have hdiffers : ¬ (x.ticked n).levelAs .datCurr .data = (x.ticked n).datPrev := by
    rw [(h.levels hh).2]
    exact fun he => hne (he.trans h.saved.2)
  refine ⟨_, h.tick hr hx ?_, (h.sampled clk d).goto .rfAwaitClock⟩
  rw [exec_rxf_awaitData (h.atUop n), h.sample2 hh, if_neg hdiffers]
  rfl

/-- RF_AWAIT_CLOCK ends when CLOCK differs (R124). -/
theorem ReceivesAt.clockDiffers (h : ReceivesAt s .rfAwaitClock bits k sig dat x) (hx : s.standsAt n x)
    (hh : s.hears n clk d) (hne : clk ≠ sig) :
    ∃ y, s.standsAt (n + 1) y ∧ ReceivesAt s .rfEdgeWait bits k sig dat y := by
  have hdiffers : ¬ (x.ticked n).levelAs .sigCurr .clock = (x.ticked n).sigPrev := by
    rw [(h.levels hh).1]
    exact fun he => hne (he.trans h.saved.1)
  refine ⟨_, h.tick hr hx ?_, (h.sampled clk d).goto .rfEdgeWait⟩
  rw [exec_rxf_awaitClock (h.atUop n), h.sample2 hh, if_neg hdiffers]
  rfl

/-- The entry releases the lines and clears position and flags (R121). -/
theorem receivesAt_release (hat : s.atUop .rfRelease) (hword : s.cmdr = encode .rxf) :
    ∃ x, s.standsAt 1 x ∧ ReceivesAt s .rfSeed bits 0 s.sigPrev s.datPrev x := by
  have ⟨hb, _, hd⟩ := hat
  have hrun : Carries .rxf s s := ⟨hb, hword, rfl⟩
  refine ⟨(rxfEntry s).goto .rfSeed, State.standsAt.tick (x := s) (n := 0) rfl (hrun.step (hr _) ?_),
    ⟨hb, hword, rfl⟩, hd, rfl, rfl, ⟨rfl, rfl⟩, ⟨rfl, rfl⟩, ⟨rfl, rfl⟩, ⟨rfl, rfl⟩,
    fun _ hj => absurd hj (Nat.not_lt_zero _)⟩
  exact exec_rxf_release hat

/-- The seed saves the levels that the device hears (R122). -/
theorem ReceivesAt.seeds (h : ReceivesAt s .rfSeed bits k sig dat x) (hx : s.standsAt n x)
    (hh : s.hears n clk d) :
    ∃ y, s.standsAt (n + 1) y ∧ ReceivesAt s .rfAwaitData bits k clk d y := by
  refine ⟨(x.sampled clk d).saveEdge.goto .rfAwaitData, h.tick hr hx ?_,
    ⟨h.carries.busy, h.carries.word, h.carries.env⟩, h.noDelay, rfl, h.cfg, h.released, h.flags, h.position,
    ⟨rfl, rfl⟩, h.stored⟩
  rw [exec_rxf_seed (h.atUop n), h.sample2 hh]
  rfl

end

section

variable {s : State} {tf n : Nat} {bits : Nat → Level} (hr : ∀ n, s.noReset n) (hf : HearsFrame s tf n bits)
  (hn : 0 < n)

include hf hn

/-- CLOCK stays HIGH from the start condition until the clock write of bit 0 (R62). -/
theorem HearsFrame.clock_high {j : Nat} (hlow : 2 + tf ≤ j) (hlt : j ≤ cellStart tf 0) :
    (s.env.getD j PortIn.quiet).shows .clock true := by
  have hbit0 := hf.data 0 hn
  rw [cellStart_zero] at *
  rcases Nat.lt_or_ge j (3 + 2 * tf) with hj | hj
  · obtain ⟨i, rfl⟩ := Nat.exists_eq_add_of_le hlow
    exact (hf.startLow i (by omega)).1
  rcases hlt.lt_or_eq with hj' | rfl
  · obtain ⟨i, rfl⟩ := Nat.exists_eq_add_of_le hj
    exact (hf.startHigh i (by omega)).1
  · exact hbit0.1

include hr

/-- RXF from its entry to RF_EDGE_WAIT, at the clock write of bit 0 (R121 to R124, R134). -/
theorem rxf_hears_start (hat : s.atUop .rfRelease) (hword : s.cmdr = encode .rxf) :
    ∃ x, s.standsAt (cellStart tf 0 + 2) x ∧ ReceivesAt s .rfEdgeWait bits 0 true true x := by
  have hcell := cellStart_zero tf
  obtain ⟨x₀, h₀, hseed⟩ := receivesAt_release (bits := bits) hr hat hword
  obtain ⟨x₁, h₁, hdata⟩ := hseed.seeds hr h₀ (hf.preamble 0 (Nat.zero_le _))
  obtain ⟨x₂, h₂, hdata⟩ := hdata.waits hr h₁ (N := 2 + tf) (by omega) fun j hj hlt => by
    obtain ⟨i, rfl⟩ := Nat.exists_eq_add_of_le (show 1 ≤ j by omega)
    exact .inl ⟨rfl, hdata.st, hdata.saved.2 ▸ (hf.preamble i (by omega)).2⟩
  obtain ⟨x₃, h₃, hclock⟩ := hdata.dataDiffers hr h₂ (hf.startLow 0 (Nat.zero_le _)) (by decide)
  obtain ⟨x₄, h₄, hclock⟩ := hclock.waits hr h₃ (N := cellStart tf 0 + 1) (by omega) fun j hj hlt =>
    .inr (.inl ⟨rfl, hclock.st, hclock.saved.1 ▸ hf.clock_high hn (by omega) (by omega)⟩)
  exact hclock.clockDiffers hr h₄ (hf.clock 0 hn 0 (Nat.zero_le _)) (by decide)

end

/-! ### The bits -/

/-- RF_EDGE_WAIT sees an edge event at bit `k`, no later than in the second tick of its clock hold. -/
def seesEdgeOf (s : State) (tf : Nat) (bits : Nat → Level) (k : Nat) : Prop :=
  ∃ e x dat clk d, cellStart tf k ≤ e ∧ e ≤ cellStart tf k + 2 ∧ s.standsAt e x ∧
    ReceivesAt s .rfEdgeWait bits k (decide (k % 2 = 0)) dat x ∧ s.hears e clk d ∧
    (clk ≠ decide (k % 2 = 0) ∨ d ≠ dat)

/-- Within the clock hold of bit `k` RXF is back in RF_EDGE_WAIT, with the bit stored. -/
def hasStored (s : State) (tf : Nat) (bits : Nat → Level) (k : Nat) : Prop :=
  ∃ e x, cellStart tf k + 2 ≤ e ∧ e ≤ cellStart tf (k + 1) ∧ s.standsAt e x ∧
    ReceivesAt s .rfEdgeWait bits (k + 1) (decide (k % 2 = 1)) (bits k) x

theorem odd_ne_even (k : Nat) : decide (k % 2 = 1) ≠ decide (k % 2 = 0) := by
  rw [Ne, decide_eq_decide]
  omega

section

variable {s : State} {tf n k : Nat} {bits : Nat → Level} (hr : ∀ n, s.noReset n)
  (hf : HearsFrame s tf n bits)

include hf in
/-- The levels of a bit stay until DATA of the next one (R61). -/
theorem HearsFrame.clock_until (hk : k < n) {j : Nat} (hj : cellStart tf k + 1 ≤ j)
    (hlt : j < cellStart tf (k + 1)) : s.hears j (decide (k % 2 = 1)) (bits k) := by
  rw [cellStart_succ] at hlt
  obtain ⟨i, rfl⟩ := Nat.exists_eq_add_of_le hj
  exact hf.clock k hk i (by omega)

include hr hf

/-- The next edge event is at the DATA write of the next bit, or at its CLOCK write (R125). -/
theorem hasStored.seesEdgeOf_succ (hk : k + 1 < n) (h : hasStored s tf bits k) :
    seesEdgeOf s tf bits (k + 1) := by
  obtain ⟨e, x, hge, hle, hx, hat⟩ := h
  rw [odd_eq_even_succ] at hat
  obtain ⟨y, hy, hyat⟩ := hat.waitsForEdge hr hx hle fun j hj hlt => by
    rw [← odd_eq_even_succ]
    exact hf.clock_until (by omega) (by omega) hlt
  by_cases hdat : bits (k + 1) = bits k
  · obtain ⟨z, hz, hzat⟩ := hyat.waitsForEdge hr hy (Nat.le_succ _) fun j hj hlt => by
      rw [show j = cellStart tf (k + 1) by omega, ← hdat]
      exact hf.data _ hk
    exact ⟨_, z, _, _, _, by omega, by omega, hz, hzat, hf.clock _ hk 0 (Nat.zero_le _),
      .inl (odd_ne_even _)⟩
  · exact ⟨_, y, _, _, _, le_rfl, by omega, hy, hyat, hf.data _ hk, .inr hdat⟩

variable (hc : s.cfg.wf = true) (hroom : n / 8 < bufCap s.cfg) (hfit : settleTicks s.cfg + 3 < tf)

include hc hroom hfit

/-- The settle delay ends within the clock hold, so that the bit is stored (R126 to R129). CLOCK differs
from the bit before, so that no stop condition is seen. -/
theorem seesEdgeOf.hasStored (hk : k < n) (h : seesEdgeOf s tf bits k) : hasStored s tf bits k := by
  obtain ⟨e, x, dat, clk, d, hge, hle, hx, hat, hh, hne⟩ := h
  have hnext := cellStart_succ tf k
  have hsample := hf.clock_until hk (j := e + 1 + settleTicks s.cfg) (by omega) (by omega)
  obtain ⟨y, hy, hstored⟩ := hat.catches hr hx hh hne hsample hc (by omega)
    (fun ⟨_, _, hsig, hclk⟩ => odd_ne_even k (hclk.trans hsig.symm)) rfl
  exact ⟨_, y, by omega, by omega, hy, hstored⟩

/-- RXF stores every bit of the frame (R134). -/
theorem rxf_stores_bits (hat : s.atUop .rfRelease) (hword : s.cmdr = encode .rxf) (hk : k < n) :
    hasStored s tf bits k := by
  induction k with
  | zero =>
    obtain ⟨x, hx, hxat⟩ := rxf_hears_start hr hf hk hat hword
    have hclk := hf.clock 0 hk 1 (by omega)
    exact seesEdgeOf.hasStored hr hf hc hroom hfit hk
      ⟨_, x, true, _, _, by omega, le_rfl, hx, hxat, hclk, .inl (odd_ne_even 0)⟩
  | succ k ih =>
    exact ((ih (by omega)).seesEdgeOf_succ hr hf hk).hasStored hr hf hc hroom hfit hk

end

/-! ### The end of the frame -/

section

variable {s : State} {tf m : Nat} {bits : Nat → Level} (hr : ∀ n, s.noReset n)
  (hf : HearsFrame s tf (8 * m) bits) (hc : s.cfg.wf = true) (hm : 1 ≤ m) (hroom : m < bufCap s.cfg)
  (hfit : settleTicks s.cfg + 3 < tf) (hforce : bits (8 * m) = true) (hat : s.atUop .rfRelease)
  (hword : s.cmdr = encode .rxf)

include hr hf hc hm hroom hfit hforce hat hword

/-- RXF at the stop condition. When the last bit is 0, forcing DATA HIGH is an edge event too, and stores
one bit more, into the byte behind the frame (R104, R125, R134). -/
theorem rxf_hears_end :
    ∃ k x, k / 8 = m ∧ 8 * m ≤ k ∧ s.standsAt (cellStart tf (8 * m) + 1 + tf) x ∧
      ReceivesAt s .rfEdgeWait bits k true true x := by
  have hlast : 8 * m - 1 + 1 = 8 * m := by omega
  obtain ⟨e, x, hge, hle, hx, hxat⟩ := rxf_stores_bits hr hf hc (by omega) hfit hat hword
    (show 8 * m - 1 < 8 * m by omega)
  have hodd : decide ((8 * m - 1) % 2 = 1) = true := by rw [decide_eq_true_eq]; omega
  rw [hlast] at hle hxat
  obtain ⟨y, hy, hyat⟩ := hxat.waitsForEdge hr hx hle fun j hj hlt =>
    hf.clock_until (show 8 * m - 1 < 8 * m by omega) (by omega) (by rwa [hlast])
  rw [hodd] at hyat
  have hforced : ∃ k n z, k / 8 = m ∧ 8 * m ≤ k ∧ cellStart tf (8 * m) ≤ n ∧
      n ≤ cellStart tf (8 * m) + 1 + tf ∧ s.standsAt n z ∧ ReceivesAt s .rfEdgeWait bits k true true z := by
    cases hbit : bits (8 * m - 1) <;> rw [hbit] at hyat
    · have hsample := hf.force (1 + settleTicks s.cfg) (by omega)
      rw [← Nat.add_assoc] at hsample
      obtain ⟨z, hz, hzat⟩ := hyat.catches hr hy (hf.force 0 (Nat.zero_le _)) (.inr (by decide)) hsample hc
        (by omega) (by simp) hforce
      exact ⟨_, _, z, by omega, Nat.le_succ _, by omega, by omega, hz, hzat⟩
    · exact ⟨_, _, y, by omega, le_rfl, le_rfl, by omega, hy, hyat⟩
  obtain ⟨k, n, z, hk, hge, hn, hle, hz, hzat⟩ := hforced
  obtain ⟨w, hw, hwat⟩ := hzat.waitsForEdge hr hz hle fun j hj hlt => by
    obtain ⟨i, rfl⟩ := Nat.exists_eq_add_of_le (hn.trans hj)
    exact hf.force i (by omega)
  exact ⟨k, w, hk, hge, hw, hwat⟩

/-- RXF receives the frame it hears: busy until the stop condition is sampled, and done one tick later
(R128, R130, R134). -/
theorem rxf_receives_frame :
    (∃ x, s.standsAt (cellStart tf (8 * m) + 1 + tf + settleTicks s.cfg + 1) x ∧ x.busy = true) ∧
    ∃ y, s.standsAt (cellStart tf (8 * m) + 1 + tf + settleTicks s.cfg + 2) y ∧ y.busy = false ∧
      y.byteIdx = BitVec.ofNat 8 m ∧ y.frameEnd = true ∧ y.ovf = false ∧
      (∀ j < 8 * m, y.wireBit j = bits j) ∧ (3 ≤ m → y.len.toNat = m - 3 ∧ y.short = false) := by
  obtain ⟨k, w, hk, hge, hw, hwat⟩ := rxf_hears_end hr hf hc hm hroom hfit hforce hat hword
  obtain ⟨x, hx, hxat⟩ := hwat.settles hr hw (hf.stopLow 0 (Nat.zero_le _)) (.inr (by decide))
  have hx := hx.cast (N := cellStart tf (8 * m) + 1 + tf + settleTicks s.cfg + 1) (by omega)
  have hlow := hf.stopLow (settleTicks s.cfg + 1) (by omega)
  rw [← Nat.add_assoc] at hlow
  refine ⟨⟨x, hx, hxat.carries.busy⟩, ?_⟩
  obtain ⟨hsigPrev, hdatPrev⟩ := hxat.saved
  have hstop := hxat.tick hr hx (y := rxfFinish { x.sampled true false with frameEnd := true }) <| by
    rw [exec_rxf_sample_stop (hxat.atUop _), hxat.sample2 hlow]
    · rfl
    · rw [stopCondition_iff, hxat.sample2 hlow]
      exact ⟨rfl, hdatPrev, hsigPrev, rfl⟩
  obtain ⟨hbyteIdx, -⟩ := hxat.position
  obtain ⟨hovf, hshort⟩ := hxat.flags
  have hcap : bufCap s.cfg ≤ 255 := Nat.add_le_add_right (payloadCap_le hc) 3
  have hbytes : x.byteIdx.toNat = m := by rw [hbyteIdx, BitVec.toNat_ofNat]; omega
  refine ⟨_, hstop, rfl, hk ▸ hbyteIdx, rfl, hovf, fun j hj => hxat.stored j (by omega), fun h3 => ?_⟩
  obtain ⟨hlong, -⟩ := rxfFinish_length { x.sampled true false with frameEnd := true }
  obtain ⟨hlen, hkept⟩ := hlong (hbytes.symm ▸ h3)
  exact ⟨hbytes ▸ hlen, hkept.trans hshort⟩

end

end Sys2Proof.Machine

/-! ## The ticks of a run and its inputs (R28, R159; log 3) -/

namespace Sys2Proof.Machine

theorem runs_one {s t : State} : runs 1 s = .next t ↔ step s = .next t := by
  unfold runs
  cases step s <;> simp

/-- A step takes the head off the input queue. -/
theorem step_env {s t : State} (h : step s = .next t) : t.env = s.env.tail := by
  rcases step_next h with ⟨-, rfl⟩ | ⟨i, u, -, hu, rfl⟩ | ⟨e, -, rfl⟩ | ⟨-, rfl⟩
  · rfl
  · obtain ⟨-, -, henv⟩ := exec_keeps hu
    exact congrArg List.tail henv
  · rfl
  · rfl

theorem runs_env {n : Nat} {s t : State} (h : runs n s = .next t) : t.env = s.env.drop n := by
  induction n generalizing s with
  | zero =>
    cases h
    rfl
  | succ n ih =>
    unfold runs at h
    split at h
    case h_1 u hu => rw [ih h, step_env hu, List.drop_tail]
    all_goals cases h

/-- What the ports show after `n` ticks. -/
theorem runs_port {n : Nat} {s t : State} (h : runs n s = .next t) :
    t.port = s.env.getD n PortIn.quiet := by
  rw [State.port, runs_env h, List.getD_eq_getElem?_getD, ← List.head?_drop, ← List.headD_eq_head?_getD]

/-- A run that is not stopped was not stopped before. -/
theorem runs_le {n k : Nat} {s t : State} (h : runs n s = .next t) (hk : k ≤ n) :
    ∃ u, runs k s = .next u := by
  induction k generalizing s n with
  | zero => exact ⟨s, rfl⟩
  | succ k ih =>
    obtain ⟨n, rfl⟩ := Nat.exists_eq_add_of_le' (Nat.one_le_of_lt hk)
    unfold runs at h
    split at h
    case h_1 u hu =>
      rw [runs_succ k hu]
      exact ih h (Nat.le_of_succ_le_succ hk)
    all_goals cases h

/-- Without reset a busy core executes a tick of the command in CMDR (R155, R159). -/
theorem step_busy {i : Instr} {s : State} (hr : s.port.rst = false) (hb : s.busy = true)
    (hi : decode s.cmdr = .ok i) : step s = onNext State.endTick (exec i s) := by
  have hwork : s.work = .command i := by
    rw [State.work, hr, hb, hi]
    rfl
  rw [step, hwork]

end Sys2Proof.Machine

/-! ## TXF among any others: it reads no line and nothing else that it does not write (R32, R108) -/

namespace Sys2Proof.Machine

/-- The state with the inputs, the ticks counted, BOUND and the loop registers of `l`: none of these is read
or written by a micro-operation of TXF. -/
def State.withUnused (s l : State) : State :=
  { s with env := l.env, draws := l.draws, bound := l.bound, loopIdx := l.loopIdx, acc1 := l.acc1,
           acc2 := l.acc2 }

section

variable (m : Byte) (s l : State)

theorem State.ite_withUnused (c : Prop) [Decidable c] (t : State) :
    (if c then s else t).withUnused l = if c then s.withUnused l else t.withUnused l :=
  apply_ite (State.withUnused · l) c s t

@[simp] theorem State.withUnused_st : (s.withUnused l).st = s.st := rfl

theorem txfLoop_withUnused : txfLoop m (s.withUnused l) = (txfLoop m s).withUnused l := by
  unfold txfLoop
  rw [State.ite_withUnused]
  rfl

theorem txfAfter_withUnused : txfAfter m (s.withUnused l) = (txfAfter m s).withUnused l := by
  simp only [txfAfter, State.withUnused_st]
  cases s.st
  case tfStartHi | tfBitClock => exact txfLoop_withUnused m s l
  case tfForce => dsimp only; rw [State.ite_withUnused]; rfl
  all_goals rfl

theorem txfHold_withUnused : txfHold m (s.withUnused l) = onNext (·.withUnused l) (txfHold m s) := by
  have hdelay (n : Nat) :
      (s.withUnused l).delay n (txfAfter m) = (s.delay n (txfAfter m)).withUnused l := by
    unfold State.delay
    rw [State.ite_withUnused, ← txfAfter_withUnused]
    rfl
  exact congrArg _ (hdelay _)

theorem txfUop_withUnused : txfUop m (s.withUnused l) = onNext (·.withUnused l) (txfUop m s) := by
  simp only [txfUop, State.withUnused_st]
  cases s.st
  case tfDrive => exact txfHold_withUnused m s.driveBothHigh l
  case tfStartLo | tfStopLo => exact txfHold_withUnused m (s.writeData false) l
  case tfStartHi =>
    exact txfHold_withUnused m { s.writeData true with phase := false, byteIdx := 0, bitIdx := 7 } l
  case tfBitData => dsimp only; rw [onNext_withIndex]; rfl
  case tfBitClock => exact txfHold_withUnused m s.clockPhase.advanceBit l
  case tfForce | tfStopHi => exact txfHold_withUnused m (s.writeData true) l
  case tfNorm => exact txfHold_withUnused m (s.writeClock true) l
  all_goals rfl

theorem countDown_withUnused :
    (s.withUnused l).countDown (txfAfter m) = (s.countDown (txfAfter m)).withUnused l := by
  unfold State.countDown
  rw [State.ite_withUnused, ← txfAfter_withUnused]
  rfl

variable {m s l}

/-- A tick of a running TXF. -/
theorem exec_txf_withUnused (hb : s.busy = true) :
    exec (.txf m) (s.withUnused l) = onNext (·.withUnused l) (exec (.txf m) s) := by
  by_cases hd : s.dlyCnt = 0
  · rw [exec_uop _ hb hd, exec_uop _ (s := s.withUnused l) hb hd]
    exact txfUop_withUnused m s l
  · rw [exec_countDown _ hb hd, exec_countDown _ (s := s.withUnused l) hb hd]
    exact congrArg _ (countDown_withUnused m s l)

/-- One tick of TXF, with other inputs as well. -/
theorem step_txf_withUnused {t : State} (hi : decode s.cmdr = .ok (.txf m)) (hb : s.busy = true)
    (hr : s.port.rst = false) (hl : l.port.rst = false) (h : step s = .next t) :
    step (s.withUnused l) = .next (t.withUnused l.endTick) := by
  rw [step_busy hr hb hi] at h
  obtain ⟨u, hu, rfl⟩ := onNext_next.mp h
  rw [step_busy (s := s.withUnused l) hl hb hi, exec_txf_withUnused hb, hu]
  rfl

/-- A run of TXF, with other inputs as well (R108). -/
theorem runs_txf_withUnused {n : Nat} {t : State} (hi : decode s.cmdr = .ok (.txf m)) (hr : s.noReset n)
    (hl : l.noReset n) (hbusy : ∀ k < n, ∃ u, runs k s = .next u ∧ u.busy = true)
    (h : runs n s = .next t) :
    t.cmdr = s.cmdr ∧ runs n (s.withUnused l) = .next (t.withUnused (l.ticked n)) := by
  induction n generalizing t with
  | zero =>
    cases h
    exact ⟨rfl, rfl⟩
  | succ n ih =>
    obtain ⟨u, hu, hb⟩ := hbusy n (Nat.lt_succ_self n)
    obtain ⟨hword, hrun⟩ := ih (hr.mono (Nat.le_succ n)) (hl.mono (Nat.le_succ n))
      (fun k hk => hbusy k (by omega)) hu
    have hstep : step u = .next t := by
      rw [runs_add n 1 hu] at h
      exact runs_one.mp h
    have hrst : u.port.rst = false := by
      rw [runs_port hu]
      exact hr n (Nat.lt_succ_self n)
    refine ⟨((configurationAndRunningWordStay u t hstep).2 hrst hb).trans hword, ?_⟩
    have hnext := step_txf_withUnused (hword ▸ hi) hb hrst (hl.port_rst (Nat.lt_succ_self n) rfl) hstep
    rw [runs_add n 1 hrun, runs_one, hnext, State.endTick_ticked]

end

/-! ### A TXF that stands at its first state has been accepted, but for what it does not use -/

/-- A waiting, bound core that is offered `TXF m`, and that its acceptance leaves where `s` stands (R155). -/
def State.beforeTxf (s : State) (m : Byte) : State :=
  { s.idled with bound := true, env := [{ PortIn.quiet with cmdValid := true, cmd := encode (.txf m) }] }

theorem beforeTxf_noReset (s : State) (m : Byte) (n : Nat) : (s.beforeTxf m).noReset n := by
  intro k _
  cases k <;> rfl

theorem beforeTxf_takesUp {s : State} {m : Byte} (hc : s.cfg.wf = true) (hm : m.toNat ≤ bufCap s.cfg) :
    TakesUp (s.beforeTxf m) (.txf m) :=
  ⟨hc, ⟨rfl, rfl, rfl⟩, rfl, decide_eq_true hm, rfl, decode_encode _⟩

/-- The ticks from TF_DRIVE to `done` (R111). -/
def txfTicks (c : Config) (m : Byte) : Nat := 6 + 6 * holdTicks c + 8 * m.toNat * (2 + holdTicks c)

/-- The pads `n` ticks on. -/
def padsAfter (n : Nat) (s : State) : Pads :=
  match runs n s with
  | .next t => t.pads
  | _ => s.pads

theorem padsAfter_eq {n : Nat} {s t : State} (h : runs n s = .next t) : padsAfter n s = t.pads := by
  rw [padsAfter, h]

section

variable {s : State} {m : Byte} {n : Nat} (hc : s.cfg.wf = true) (hm : m.toNat ≤ bufCap s.cfg)
  (hat : s.atUop .tfDrive) (hi : decode s.cmdr = .ok (.txf m)) (hr : s.noReset n)
  (hn : n ≤ txfTicks s.cfg m)

include hat hi in
theorem latch_beforeTxf : (((s.beforeTxf m).latch (.txf m)).ticked 1).withUnused s = s := by
  obtain ⟨hb, hst, hd⟩ := hat
  have hword := encode_of_decode hi
  cases s
  dsimp only at hb hst hd hword
  subst hb hst hd hword
  rfl

include hc hm hn in
theorem beforeTxf_answers : ∃ t, runs (1 + n) (s.beforeTxf m) = .next t := by
  have htakes := beforeTxf_takesUp hc hm
  obtain ⟨-, t, ht, -⟩ := txfCompletesOnTime (s.beforeTxf m) m hc htakes.waiting rfl hm htakes.offers
    (beforeTxf_noReset s m _)
  exact runs_le ht (Nat.add_le_add_left hn 1)

include hc hm hat hi hr hn

/-- The run of TXF, among whatever inputs, is the run from its acceptance (R108, R155). -/
theorem runs_of_beforeTxf {t : State} (h : runs (1 + n) (s.beforeTxf m) = .next t) :
    runs n s = .next (t.withUnused (s.ticked n)) := by
  have htakes := beforeTxf_takesUp hc hm
  have haccepted := htakes.standsAt_latch (beforeTxf_noReset s m 1)
  obtain ⟨hbusy, -⟩ := txfCompletesOnTime (s.beforeTxf m) m hc htakes.waiting rfl hm htakes.offers
    (beforeTxf_noReset s m _)
  rw [runs_add 1 n haccepted] at h
  have hword : decode (((s.beforeTxf m).latch (.txf m)).ticked 1).cmdr = .ok (.txf m) := decode_encode _
  have hbusyFrom (k : Nat) (hk : k < n) :
      ∃ u, runs k (((s.beforeTxf m).latch (.txf m)).ticked 1) = .next u ∧ u.busy = true := by
    rw [← runs_add 1 k haccepted]
    exact hbusy (1 + k) (Nat.le_add_right 1 k) (Nat.add_lt_add_left (hk.trans_le hn) 1)
  obtain ⟨-, hrun⟩ := runs_txf_withUnused hword (fun _ _ => rfl) hr hbusyFrom h
  rwa [latch_beforeTxf hat hi] at hrun

/-- TXF stops nowhere before its end (R111). -/
theorem runs_txf_answers : ∃ t, runs n s = .next t := by
  obtain ⟨u, hu⟩ := beforeTxf_answers hc hm hn
  exact ⟨_, runs_of_beforeTxf hc hm hat hi hr hn hu⟩

/-- Its waveform is the one from its acceptance. -/
theorem padsAfter_of_beforeTxf {p : Pads} (h : ∃ t, runs (1 + n) (s.beforeTxf m) = .next t ∧ t.pads = p) :
    padsAfter n s = p := by
  obtain ⟨t, ht, rfl⟩ := h
  exact (padsAfter_eq (runs_of_beforeTxf hc hm hat hi hr hn ht)).trans rfl

/-- The levels of a TXF do not depend on the inputs of its device. -/
theorem padsAfter_txf_withEnv {e : List PortIn} (hre : (s.withEnv e).noReset n) :
    padsAfter n (s.withEnv e) = padsAfter n s := by
  obtain ⟨u, hu⟩ := beforeTxf_answers hc hm hn
  exact (padsAfter_of_beforeTxf (s := s.withEnv e) hc hm hat hi hre hn ⟨u, hu, rfl⟩).trans
    (padsAfter_of_beforeTxf hc hm hat hi hr hn ⟨u, hu, rfl⟩).symm

end

end Sys2Proof.Machine

/-! ## Two devices on one clock (spec/20_memory.md R48, R49; log 17) -/

namespace Sys2Proof.Machine

/-- The ports of a device among others, with no reset and no command. -/
def PortIn.among (others : List Pads) : PortIn := { PortIn.quiet with peers := others }

/-- The ports of the first `n` ticks of a device that has one other device with it. -/
def portsBeside (pads : Nat → Pads) (n : Nat) : List PortIn :=
  (List.range n).map fun k => PortIn.among [pads k]

theorem portsBeside_getD {pads : Nat → Pads} {n k : Nat} (hk : k < n) :
    (portsBeside pads n).getD k PortIn.quiet = PortIn.among [pads k] := by
  simp [portsBeside, List.getD_eq_getElem?_getD, hk]

theorem portsBeside_noReset (s : State) (pads : Nat → Pads) (n N : Nat) :
    (s.withEnv (portsBeside pads n)).noReset N := by
  intro k _
  show ((portsBeside pads n).getD k PortIn.quiet).rst = false
  rcases Nat.lt_or_ge k n with hk | hk
  · rw [portsBeside_getD hk]
    rfl
  · rw [List.getD_eq_default _ _ (by simpa [portsBeside] using hk)]
    rfl

/-- A device that hears one other device, which drives both lines. -/
theorem portsBeside_hears (s : State) {pads : Nat → Pads} {n k : Nat} {clk dat : Level} (hk : k < n)
    (h : pads k = ⟨clk, dat, true, true⟩) : (s.withEnv (portsBeside pads n)).hears k clk dat := by
  have hport : (s.withEnv (portsBeside pads n)).env.getD k PortIn.quiet =
      PortIn.among [⟨clk, dat, true, true⟩] := h ▸ portsBeside_getD hk
  rw [State.hears, hport]
  exact ⟨fun _ => rfl, fun _ => rfl⟩

/-- With another queue that begins with the same work and the same pads, a step does the same, and leaves
that queue's tail. -/
theorem step_withEnv_tail {s : State} {e : List PortIn} (hw : (s.withEnv e).work = s.work)
    (hp : s.samePeers e) : step (s.withEnv e) = onNext (·.withEnv e.tail) (step s) := by
  unfold step
  rw [hw]
  cases s.work with
  | command i =>
    dsimp only
    rw [exec_withEnv i hp]
    cases exec i s <;> rfl
  | reset | badWord err | nothing | stray => rfl

/-- An idle host makes no move and stays idle (R165). -/
theorem Session.idle.tick {h : Session} (hh : h.idle) (ready : Bool) (read : BitVec 4 → Byte) :
    (h.tick ready read).1 = none ∧ (h.tick ready read).2.idle := by
  obtain ⟨phase, current, jobs, redo, wait, returned⟩ := h
  obtain ⟨rfl, rfl⟩ : phase = .between ∧ jobs = [] := hh
  cases ready
  · exact ⟨rfl, rfl, rfl⟩
  · rcases wait with _ | ⟨_ | k, w⟩ <;> exact ⟨rfl, rfl, rfl⟩

/-- A node with an idle host ticks as its device alone does among the same pads. -/
theorem Node.tick_among {n : Node} {a b : State} {others : List Pads} (hidle : n.host.idle)
    (hdev : n.dev = a.withEnv []) (hport : a.port = PortIn.among others) (h : step a = .next b) :
    ∃ host, n.tick others = .next ⟨b.withEnv [], host⟩ ∧ host.idle := by
  have hrst : (n.dev.seeing others).port.rst = false := by rw [hdev]; rfl
  obtain ⟨hmove, hstays⟩ := hidle.tick (n.dev.seeing others).cmdReady (readPort (n.dev.seeing others))
  rw [← Node.hostMove_run hrst] at hmove hstays
  have hview : (n.dev.seeing others).offering none = a.withEnv [a.port] := by rw [hdev, hport]; rfl
  have hstep : step ((n.dev.seeing others).offering none) = .next (b.withEnv []) := by
    rw [hview, step_withEnv_tail (s := a) (e := [a.port]) rfl rfl, h]
    rfl
  refine ⟨_, ?_, hstays⟩
  unfold Node.tick
  dsimp only
  rw [hmove, hstep]

theorem netTick_pair {A B A' B' : Node} (hA : A.tick [B.dev.pads] = .next A')
    (hB : B.tick [A.dev.pads] = .next B') : netTick [A, B] [true, true] = .next [A', B'] := by
  simp [netTick, tickNodes, padsOf, hA, hB]

/-- Two devices with idle hosts on one bus, each of which sees the other's pads in every tick: the bus runs
as the two devices do (R48, R49). -/
theorem netRun_pair {n : Nat} {A B : Node} {a b x y : State} (hA : A.host.idle) (hB : B.host.idle)
    (ha : A.dev = a.withEnv []) (hb : B.dev = b.withEnv []) (hx : runs n a = .next x)
    (hy : runs n b = .next y)
    (hports : ∀ k < n, ∃ u v, runs k a = .next u ∧ runs k b = .next v ∧
      u.port = PortIn.among [v.pads] ∧ v.port = PortIn.among [u.pads]) :
    ∃ hostA hostB, netRun [A, B] (List.replicate n [true, true]) =
      .next [⟨x.withEnv [], hostA⟩, ⟨y.withEnv [], hostB⟩] := by
  induction n generalizing A B a b with
  | zero =>
    cases hx
    cases hy
    exact ⟨A.host, B.host, by rw [← ha, ← hb]; rfl⟩
  | succ n ih =>
    obtain ⟨u, v, hu, hv, huport, hvport⟩ := hports 0 (Nat.succ_pos n)
    cases hu
    cases hv
    obtain ⟨a', ha'⟩ := runs_le hx (Nat.succ_pos n)
    obtain ⟨b', hb'⟩ := runs_le hy (Nat.succ_pos n)
    rw [runs_one] at ha' hb'
    obtain ⟨hostA, htickA, hidleA⟩ := Node.tick_among hA ha huport ha'
    obtain ⟨hostB, htickB, hidleB⟩ := Node.tick_among hB hb hvport hb'
    obtain ⟨hostA', hostB', hrun⟩ := ih (A := ⟨a'.withEnv [], hostA⟩)
      (B := ⟨b'.withEnv [], hostB⟩) hidleA hidleB rfl rfl (by rwa [runs_succ n ha'] at hx)
      (by rwa [runs_succ n hb'] at hy) fun k hk => by
        have hk' := hports (k + 1) (Nat.succ_lt_succ hk)
        rwa [runs_succ k ha', runs_succ k hb'] at hk'
    refine ⟨hostA', hostB', ?_⟩
    have hpads : B.dev.pads = b.pads ∧ A.dev.pads = a.pads := by rw [ha, hb]; exact ⟨rfl, rfl⟩
    rw [List.replicate_succ, netRun, netTick_pair (hpads.1.symm ▸ htickA) (hpads.2.symm ▸ htickB)]
    exact hrun

end Sys2Proof.Machine

/-! ## A frame gets across (spec/42_receiver.md R134; spec/70_reset_and_hazards.md R223) -/

namespace Sys2Proof.Machine

/-- The bits that RXF stores when it hears the `m` bytes of a device: theirs, and then the forced HIGH
(R104, R134). -/
def frameBits (s : State) (m : Byte) (k : Nat) : Level := if k < 8 * m.toNat then s.wireBit k else true

/-- The tick before which TXF has written the stop condition, behind `n` bits (R64, R108). -/
theorem cellStart_stop (tf n : Nat) : cellStart tf n + 1 + tf = 5 + 4 * tf + n * (2 + tf) := by
  unfold cellStart
  omega

/-- The ticks of TXF up to the end of the hold of TF_STOP_LO (R108). -/
def txfUntilStop (c : Config) (m : Byte) : Nat :=
  cellStart (holdTicks c) (8 * m.toNat) + 2 + 2 * holdTicks c

theorem txfUntilStop_le {c : Config} (hc : c.wf = true) (m : Byte) : txfUntilStop c m ≤ txfTicks c m := by
  have hpos := holdTicks_pos hc
  unfold txfUntilStop txfTicks cellStart
  omega

section

variable {s : State} {m : Byte} (hc : s.cfg.wf = true) (hm : m.toNat ≤ bufCap s.cfg)
  (hat : s.atUop .tfDrive) (hi : decode s.cmdr = .ok (.txf m)) (hr : ∀ n, s.noReset n)

include hc hm hat hi hr

/-- A device that hears another one's TXF hears its frame (R62 to R64, R108). -/
theorem hearsFrame_txf (r : State) :
    HearsFrame (r.withEnv (portsBeside (padsAfter · s) (txfUntilStop s.cfg m))) (holdTicks s.cfg)
      (8 * m.toNat) (frameBits s m) := by
  have hle := txfUntilStop_le hc m
  have hwait : (s.beforeTxf m).waiting := ⟨rfl, rfl, rfl⟩
  have hoff : (s.beforeTxf m).offers (.txf m) := ⟨rfl, decode_encode _⟩
  have hquiet := beforeTxf_noReset s m
  have hhold : holdTicks (s.beforeTxf m).cfg = holdTicks s.cfg := rfl
  have hwave {n k : Nat} {clk dat : Level}
      (h : ∃ t, runs n (s.beforeTxf m) = .next t ∧ t.pads = ⟨clk, dat, true, true⟩) (hn : n = 1 + k)
      (hk : k < txfUntilStop s.cfg m) :
      (r.withEnv (portsBeside (padsAfter · s) (txfUntilStop s.cfg m))).hears k clk dat :=
    portsBeside_hears r hk (padsAfter_of_beforeTxf hc hm hat hi (hr k) (by omega) (hn ▸ h))
  have hends (j : Nat) (hj : j ≤ holdTicks s.cfg) :=
    txfStartAndStopOnTheWire (s.beforeTxf m) m j hc hwait rfl hm hoff hj (hquiet _)
  have hcells (k : Nat) (hk : k < 8 * m.toNat) :=
    txfBitCellsOnTheWire (s.beforeTxf m) m k hc hwait rfl hm hoff hk (hquiet _)
  have hbit {k : Nat} (hk : k < 8 * m.toNat) : (s.beforeTxf m).wireBit k = frameBits s m k :=
    (if_pos hk).symm
  have hbefore {k : Nat} (hk : k < 8 * m.toNat) :
      cellStart (holdTicks s.cfg) k + 2 + holdTicks s.cfg ≤ cellStart (holdTicks s.cfg) (8 * m.toNat) := by
    rw [← cellStart_succ]
    exact Nat.add_le_add_left (Nat.mul_le_mul_right _ hk) _
  constructor
  case preamble =>
    intro j hj
    obtain ⟨h, -⟩ := hends j hj
    exact hwave h rfl (by unfold txfUntilStop cellStart; omega)
  case startLow =>
    intro j hj
    obtain ⟨-, h, -⟩ := hends j hj
    exact hwave h rfl (by unfold txfUntilStop cellStart; omega)
  case startHigh =>
    intro j hj
    obtain ⟨-, -, h, -⟩ := hends j hj
    exact hwave h rfl (by unfold txfUntilStop cellStart; omega)
  case data =>
    intro k hk
    have hlt := hbefore hk
    obtain ⟨h, -⟩ := hcells k hk
    exact hwave (hbit hk ▸ h) rfl (by unfold txfUntilStop; omega)
  case clock =>
    intro k hk j hj
    have hlt := hbefore hk
    obtain ⟨-, h⟩ := hcells k hk
    have h := h j hj
    rw [hhold, hbit hk] at h
    exact hwave h (by unfold cellStart; omega) (by unfold txfUntilStop; omega)
  case force =>
    intro j hj
    obtain ⟨-, -, -, h, -⟩ := hends j hj
    exact hwave h rfl (by unfold txfUntilStop; omega)
  case stopLow =>
    intro j hj
    obtain ⟨-, -, -, -, h, -⟩ := hends j hj
    rw [hhold] at h
    exact hwave h (by unfold cellStart; omega) (by unfold txfUntilStop; omega)

end

theorem State.withEnv_nil {s : State} (h : s.env = []) (e : List PortIn) : s = (s.withEnv e).withEnv [] := by
  rw [← h]
  rfl

/-- Two devices with idle hosts, the first of which executes TXF: the bus runs as the second device does that
sees the levels of that TXF (R48, R49, R108). -/
theorem netRun_txf {A B : Node} {m : Byte} {n : Nat} {y : State} (hA : A.host.idle) (hB : B.host.idle)
    (hAenv : A.dev.env = []) (hBenv : B.dev.env = []) (hc : A.dev.cfg.wf = true)
    (hm : m.toNat ≤ bufCap A.dev.cfg) (hat : A.dev.atUop .tfDrive) (hi : decode A.dev.cmdr = .ok (.txf m))
    (hr : ∀ n, A.dev.noReset n) (hn : n ≤ txfUntilStop A.dev.cfg m)
    (hy : runs n (B.dev.withEnv (portsBeside (padsAfter · A.dev) (txfUntilStop A.dev.cfg m))) = .next y) :
    ∃ C host, netRun [A, B] (List.replicate n [true, true]) = .next [C, ⟨y.withEnv [], host⟩] := by
  have hle := txfUntilStop_le hc m
  generalize hb : B.dev.withEnv (portsBeside (padsAfter · A.dev) (txfUntilStop A.dev.cfg m)) = b at hy
  generalize ha : A.dev.withEnv (portsBeside (padsAfter · b) (txfUntilStop A.dev.cfg m)) = a
  have hquiet : ∀ k, a.noReset k := ha ▸ portsBeside_noReset A.dev _ _
  have hanswers (k : Nat) (hk : k ≤ n) : ∃ u, runs k a = .next u := by
    subst ha
    exact runs_txf_answers (s := A.dev.withEnv _) hc hm hat hi (hquiet k) ((hk.trans hn).trans hle)
  obtain ⟨x, hx⟩ := hanswers n le_rfl
  obtain ⟨hostA, hostB, hrun⟩ := netRun_pair hA hB (ha ▸ A.dev.withEnv_nil hAenv _)
    (hb ▸ B.dev.withEnv_nil hBenv _) hx hy fun k hk => by
      obtain ⟨u, hu⟩ := hanswers k hk.le
      obtain ⟨v, hv⟩ := runs_le hy hk.le
      have hpads : padsAfter k A.dev = u.pads := by
        rw [← padsAfter_eq hu, ← ha]
        exact (padsAfter_txf_withEnv hc hm hat hi (hr k) (by omega) (ha ▸ hquiet k)).symm
      refine ⟨u, v, hu, hv, ?_, ?_⟩
      · rw [runs_port hu, ← ha, ← padsAfter_eq hv]
        exact portsBeside_getD (by omega)
      · rw [runs_port hv, ← hb, ← hpads]
        exact portsBeside_getD (pads := (padsAfter · A.dev)) (by omega)
  exact ⟨_, hostB, hrun⟩

/-- Settles O56: the receiver hears the waveform of TXF, stores its bits, and samples the stop condition in
the tick of R134. -/
theorem frameRoundTrip : Obligations.FrameRoundTrip := by
  intro A B m hA hB hAenv hBenv hAc hBc hAat hAi hBat hBi hm1 hmA hmB hfit tf v
  have hr (n : Nat) : A.dev.noReset n := fun k _ => by rw [hAenv]; rfl
  have hrun {n : Nat} {y : State} := netRun_txf (n := n) (y := y) hA hB hAenv hBenv hAc hmA hAat hAi hr
  obtain ⟨⟨x, hx, hbusy⟩, y, hy, hdone, hbyte, hend, hovf, hbits, hlen⟩ :=
    rxf_receives_frame (portsBeside_noReset B.dev _ _) (hearsFrame_txf hAc hmA hAat hAi hr B.dev) hBc hm1
      hmB hfit (if_neg (lt_irrefl _)) hBat (encode_of_decode hBi).symm
  have hwithin : v + settleTicks B.dev.cfg + 2 ≤ txfUntilStop A.dev.cfg m := by
    show 5 + 4 * holdTicks A.dev.cfg + 8 * m.toNat * (2 + holdTicks A.dev.cfg) + _ + 2 ≤ _
    rw [← cellStart_stop]
    unfold txfUntilStop
    omega
  rw [cellStart_stop] at hx hy
  constructor
  · obtain ⟨C, host, hnet⟩ := hrun (n := v + settleTicks B.dev.cfg + 1) (by omega) hx
    exact ⟨C, _, hnet, hbusy⟩
  · obtain ⟨C, host, hnet⟩ := hrun (n := v + settleTicks B.dev.cfg + 2) hwithin hy
    refine ⟨C, _, hnet, hdone, hbyte.trans (by simp), hend, hovf, fun i hlt => ?_, hlen⟩
    exact byteAt_eq_of_wireBit fun j hj => (hbits j (by omega)).trans (if_pos (by omega))

end Sys2Proof.Machine

/-! ## One tick of TXA and of RXA (spec/43_acknowledgment.md R141 to R148) -/

namespace Sys2Proof.Machine

section

variable {s : State} {a : Byte}

/-- A tick of TXA without a pending delay is the micro-operation of its state (R144). -/
theorem exec_txa_uop {q : Seq} (hat : s.atUop q) : exec (.txa a) s = txaUop a s := by
  obtain ⟨hb, -, hd⟩ := hat
  exact exec_uop _ hb hd

/-- TA_DRIVE drives both lines HIGH for two holds (R141). -/
theorem exec_txa_drive (hc : s.cfg.wf = true) (hat : s.atUop .taDrive) :
    exec (.txa a) s = .next
      { s.driveBothHigh with phase := false, bitIdx := 7, dlyCnt := 2 * holdTicks s.cfg } := by
  have ⟨_, hst, _⟩ := hat
  have hpos := holdTicks_pos hc
  rw [exec_txa_uop hat]
  simp only [txaUop, hst]
  exact congrArg _ (if_neg (by omega))

/-- The DATA write of a bit has no hold: the CLOCK write follows in the next tick (R142). -/
theorem exec_txa_bitData (hat : s.atUop .taBitData) :
    exec (.txa a) s = .next ((s.writeData (bitOf a s.bitIdx)).goto .taBitClock) := by
  have ⟨_, hst, _⟩ := hat
  rw [exec_txa_uop hat]
  simp only [txaUop, hst]

/-- The CLOCK write of a bit flips PHASE, counts BITIDX down and is held (R142). -/
theorem exec_txa_bitClock (hc : s.cfg.wf = true) (hat : s.atUop .taBitClock) :
    exec (.txa a) s = .next { s.clockPhase.ackBitDown with dlyCnt := holdTicks s.cfg } := by
  have ⟨_, hst, _⟩ := hat
  rw [exec_txa_uop hat]
  simp only [txaUop, hst]
  exact congrArg _ (if_neg (holdTicks_pos hc).ne')

/-- TA_RESTORE leaves both lines HIGH and ends the command (R143). -/
theorem exec_txa_restore (hat : s.atUop .taRestore) : exec (.txa a) s = .next s.writeBothHigh.done := by
  have ⟨_, hst, _⟩ := hat
  rw [exec_txa_uop hat]
  simp only [txaUop, hst]

/-- After the hold of a bit the choice is of the next state alone (R143, R144; log 12). -/
theorem txaAfter_bitClock (hst : s.st = .taBitClock) :
    txaAfter s = s.goto (if s.bitIdx = 0 ∧ s.phase = false then .taRestore else .taBitData) := by
  simp only [txaAfter, hst]
  exact (apply_ite s.goto _ _ _).symm

end

/-- Settles O42: the four micro-operations, and the end of each of the two holds. -/
theorem txaMicroOperations : Obligations.TxaMicroOperations := by
  intro a s hc
  refine ⟨exec_txa_drive hc, exec_txa_bitData, exec_txa_bitClock hc, exec_txa_restore,
    fun hb hd hst => ?_, fun hb hd hst => ?_⟩ <;> rw [exec_delayEnd _ hb hd]
  · simp only [afterDelay, txaAfter, hst, State.goto]
  · exact congrArg _ (txaAfter_bitClock (s := { s with dlyCnt := 0 }) hst)

section

variable {s : State}

/-- A tick of RXA without a pending delay is the micro-operation of its state (R149). -/
theorem exec_rxa_uop {q : Seq} (hat : s.atUop q) : exec .rxa s = rxaUop s := by
  obtain ⟨hb, -, hd⟩ := hat
  exact exec_uop .rxa hb hd

/-- RA_RELEASE is the entry: both lines released, ACKV cleared, bit 7 first (R146). -/
theorem exec_rxa_release (hat : s.atUop .raRelease) :
    exec .rxa s = .next ({ s.releaseBoth with ackv := 0, bitIdx := 7 }.goto .raSeed) := by
  have ⟨_, hst, _⟩ := hat
  rw [exec_rxa_uop hat]
  simp only [rxaUop, hst]

/-- RA_SEED saves the levels it samples (R146). -/
theorem exec_rxa_seed (hat : s.atUop .raSeed) :
    exec .rxa s = .next (s.sample2.saveEdge.goto .raAwaitClock) := by
  have ⟨_, hst, _⟩ := hat
  rw [exec_rxa_uop hat]
  simp only [rxaUop, hst]

/-- A CLOCK level other than the saved one stores a bit (R147). -/
theorem exec_rxa_toggle (hat : s.atUop .raAwaitClock) (hne : s.levelAs .sigCurr .clock ≠ s.sigPrev) :
    exec .rxa s = .next (rxaStore s.sample2) := by
  have ⟨_, hst, _⟩ := hat
  rw [exec_rxa_uop hat]
  simp only [rxaUop, hst]
  exact congrArg _ (if_pos (bne_iff_ne.mpr hne))

/-- The state of RXA with the levels saved and the bit stored, before its position moves on (R147). -/
def ackStored (s : State) : State := { s.saveEdge with ackv := setBit s.ackv s.bitIdx s.datCurr }

/-- A bit before the last one counts BITIDX down (R147). -/
theorem rxaStore_of_ne (h : s.bitIdx ≠ 0) : rxaStore s = { ackStored s with bitIdx := s.bitIdx - 1 } :=
  if_neg h

/-- The last bit ends the command (R148). -/
theorem rxaStore_of_zero (h : s.bitIdx = 0) : rxaStore s = (ackStored s).done := if_pos h

end

/-- Settles O44: the stored bit and the saved levels do not depend on whether the toggle is the last one,
which ends the command. -/
theorem rxaStoresBitAtToggle : Obligations.RxaStoresBitAtToggle := by
  intro s c d
  refine ⟨exec_rxa_release, exec_rxa_seed, exec_rxa_noToggle, fun hat hne => ?_⟩
  have ⟨hb, hst, _⟩ := hat
  have hbits (j : BitVec 3) :
      bitOf (ackStored s.sample2).ackv j = if j = s.bitIdx then d else bitOf s.ackv j :=
    bitOf_setBit s.ackv s.bitIdx j d
  have hexec := exec_rxa_toggle hat hne
  by_cases h0 : s.bitIdx = 0
  · rw [rxaStore_of_zero (s := s.sample2) h0] at hexec
    exact ⟨_, hexec, rfl, rfl, rfl, rfl, hbits, fun h => absurd h0 h, fun _ => ⟨h0, rfl, rfl⟩, rfl⟩
  · rw [rxaStore_of_ne (s := s.sample2) h0] at hexec
    exact ⟨_, hexec, rfl, rfl, rfl, rfl, hbits, fun _ => ⟨rfl, hst, hb⟩, fun h => absurd h h0, rfl⟩

end Sys2Proof.Machine

/-! ## RXA as it hears an acknowledgment (spec/43_acknowledgment.md R145 to R149, R151) -/

namespace Sys2Proof.Machine

/-! ### One bit -/

/-- Bit `j` of an acknowledgment byte on the wire, most significant first (R66). -/
def ackBit (a : Byte) (j : Nat) : Level := bitOf a (BitVec.ofNat 3 (7 - j))

/-- A byte is its eight bits on the wire (R66). -/
theorem eq_of_ackBit {a b : Byte} (h : ∀ j < 8, ackBit a j = ackBit b j) : a = b := by
  apply BitVec.eq_of_getLsbD_eq
  intro i hi
  have hbit := h (7 - i) (by omega)
  simp only [ackBit, bitOf, BitVec.toNat_ofNat, show (7 - (7 - i)) % 2 ^ 3 = i by omega] at hbit
  exact hbit

/-- Writing bit `k` of the byte changes that bit and no other (R43, R66). -/
theorem ackBit_setBit (b : Byte) (v : Level) {j k : Nat} (hj : j < 8) (hk : k < 8) :
    ackBit (setBit b (BitVec.ofNat 3 (7 - k)) v) j = if j = k then v else ackBit b j := by
  have hbit : BitVec.ofNat 3 (7 - j) = BitVec.ofNat 3 (7 - k) ↔ j = k := by
    rw [← BitVec.toNat_inj, BitVec.toNat_ofNat, BitVec.toNat_ofNat]
    omega
  rw [ackBit, bitOf_setBit, if_congr hbit rfl rfl]
  rfl

theorem rxaStore_ticked (s : State) (n : Nat) : rxaStore (s.ticked n) = (rxaStore s).ticked n := by
  by_cases h : s.bitIdx = 0
  · rw [rxaStore_of_zero h, rxaStore_of_zero (s := s.ticked n) h]
    rfl
  · rw [rxaStore_of_ne h, rxaStore_of_ne (s := s.ticked n) h]
    rfl

/-- After `k` bits of `a` RXA stands in state `q` of a run from `s`, at the position of bit `k`, with this
CLOCK level saved and the bits before in ACKV (R146, R147). -/
structure ReceivesAck (s : State) (q : Seq) (a : Byte) (k : Nat) (clk : Level) (x : State) : Prop where
  carries : Carries .rxa s x
  noDelay : x.dlyCnt = 0
  st : x.st = q
  released : releasedBoth x
  position : x.bitIdx = BitVec.ofNat 3 (7 - k)
  saved : x.sigPrev = clk
  stored : ∀ j < k, ackBit x.ackv j = ackBit a j

section

variable {s x : State} {q : Seq} {a : Byte} {n N k : Nat} {sig clk d : Level}

theorem ReceivesAck.atUop (h : ReceivesAck s q a k sig x) (n : Nat) : (x.ticked n).atUop q :=
  ⟨h.carries.busy, h.st, h.noDelay⟩

theorem ReceivesAck.sampled (h : ReceivesAck s q a k sig x) (clk d : Level) :
    ReceivesAck s q a k sig (x.sampled clk d) :=
  ⟨⟨h.carries.busy, h.carries.word, h.carries.env⟩, h.noDelay, h.st, h.released, h.position, h.saved,
    h.stored⟩

theorem ReceivesAck.sample2 (h : ReceivesAck s q a k sig x) (hh : s.hears n clk d) :
    (x.ticked n).sample2 = (x.sampled clk d).ticked n := hh.sample2 h.carries.env h.released

/-- The bits in ACKV when bit `k` of the byte is the DATA level just sampled (R147). -/
theorem ReceivesAck.ackStored (h : ReceivesAck s q a k sig x) (hk : k < 8) :
    ∀ j < k + 1, ackBit (ackStored (x.sampled clk (ackBit a k))).ackv j = ackBit a j := by
  intro j hj
  show ackBit (setBit x.ackv x.bitIdx (ackBit a k)) j = _
  rw [h.position, ackBit_setBit _ _ (by omega) hk]
  split_ifs with hjk
  · rw [hjk]
  · exact h.stored j (by omega)

variable (hr : ∀ n, s.noReset n)

include hr

theorem ReceivesAck.tick {y : State} (h : ReceivesAck s q a k sig x) (hx : s.standsAt n x)
    (hexec : exec .rxa (x.ticked n) = .next (y.ticked n)) : s.standsAt (n + 1) y :=
  hx.tick (h.carries.step (hr _) hexec)

/-- The entry releases the lines and clears ACKV (R146). -/
theorem receivesAck_release (a : Byte) (hat : s.atUop .raRelease) (hword : s.cmdr = encode .rxa) :
    ∃ x, s.standsAt 1 x ∧ ReceivesAck s .raSeed a 0 s.sigPrev x := by
  have ⟨hb, _, hd⟩ := hat
  have hrun : Carries .rxa s s := ⟨hb, hword, rfl⟩
  refine ⟨{ s.releaseBoth with ackv := 0, bitIdx := 7 }.goto .raSeed,
    State.standsAt.tick (x := s) (n := 0) rfl (hrun.step (hr _) ?_),
    ⟨hb, hword, rfl⟩, hd, rfl, ⟨rfl, rfl⟩, rfl, rfl, fun _ hj => absurd hj (Nat.not_lt_zero _)⟩
  exact exec_rxa_release hat

/-- The seed saves the CLOCK level that the device hears (R146). -/
theorem ReceivesAck.seeds (h : ReceivesAck s .raSeed a k sig x) (hx : s.standsAt n x)
    (hh : s.hears n clk d) :
    ∃ y, s.standsAt (n + 1) y ∧ ReceivesAck s .raAwaitClock a k clk y := by
  refine ⟨(x.sampled clk d).saveEdge.goto .raAwaitClock, h.tick hr hx ?_,
    ⟨h.carries.busy, h.carries.word, h.carries.env⟩, h.noDelay, rfl, h.released, h.position, rfl, h.stored⟩
  rw [exec_rxa_seed (h.atUop n), h.sample2 hh]
  rfl

/-- RA_AWAIT_CLOCK until tick `N`, with CLOCK at the saved level (R147). -/
theorem ReceivesAck.waits (h : ReceivesAck s .raAwaitClock a k sig x) (hx : s.standsAt n x) (hN : n ≤ N)
    (hclk : ∀ j, n ≤ j → j < N → (s.env.getD j PortIn.quiet).shows .clock sig) :
    ∃ y, s.standsAt N y ∧ ReceivesAck s .raAwaitClock a k sig y := by
  obtain ⟨d, rfl⟩ := Nat.exists_eq_add_of_le hN
  obtain ⟨clk, dat, hat⟩ := hx.waits d h.carries h.noDelay h.released (hr _) fun j hj hlt =>
    .inr (.inr (.inr ⟨rfl, h.st, h.saved ▸ hclk j hj hlt⟩))
  exact ⟨_, hat, h.sampled clk dat⟩

/-- A toggle of CLOCK in tick `n` (R147). -/
theorem ReceivesAck.toggles (h : ReceivesAck s .raAwaitClock a k sig x) (hx : s.standsAt n x)
    (hh : s.hears n clk d) (hne : clk ≠ sig) : s.standsAt (n + 1) (rxaStore (x.sampled clk d)) := by
  have hclk : (x.ticked n).levelAs .sigCurr .clock = clk := congrArg State.sigCurr (h.sample2 hh)
  refine h.tick hr hx ?_
  rw [exec_rxa_toggle (h.atUop n) (hclk.trans_ne (hne.trans_eq h.saved.symm)), h.sample2 hh, rxaStore_ticked]

/-- A toggle before the last one stores bit `k` (R147). -/
theorem ReceivesAck.stores (h : ReceivesAck s .raAwaitClock a k sig x) (hx : s.standsAt n x)
    (hh : s.hears n clk (ackBit a k)) (hne : clk ≠ sig) (hk : k < 7) :
    ∃ y, s.standsAt (n + 1) y ∧ ReceivesAck s .raAwaitClock a (k + 1) clk y := by
  have hnext := ackBitPosition_succ (show k < 8 by omega)
  have hbitIdx : x.bitIdx ≠ 0 := by
    rw [h.position, Ne, ← BitVec.toNat_inj, BitVec.toNat_ofNat]
    show ¬ (7 - k) % 8 = 0
    omega
  rw [← h.position, if_neg hbitIdx] at hnext
  have hy := h.toggles hr hx hh hne
  rw [rxaStore_of_ne (s := x.sampled clk (ackBit a k)) hbitIdx] at hy
  exact ⟨_, hy, ⟨h.carries.busy, h.carries.word, h.carries.env⟩, h.noDelay, h.st, h.released, hnext, rfl,
    h.ackStored (by omega)⟩

/-- The eighth toggle ends the command with the byte in ACKV (R148). -/
theorem ReceivesAck.completes (h : ReceivesAck s .raAwaitClock a 7 sig x) (hx : s.standsAt n x)
    (hh : s.hears n clk (ackBit a 7)) (hne : clk ≠ sig) :
    ∃ y, s.standsAt (n + 1) y ∧ y.ackv = a ∧ y.busy = false ∧ y.env = s.env := by
  have hy := h.toggles hr hx hh hne
  rw [rxaStore_of_zero (s := x.sampled clk (ackBit a 7)) h.position] at hy
  exact ⟨_, hy, eq_of_ackBit (h.ackStored (by omega)), rfl, h.carries.env⟩

end

/-! ### The byte -/

/-- The tick before which TXA, of this hold and begun in tick 0, has written DATA of bit `j` (R144). -/
def ackCellStart (tf j : Nat) : Nat := 2 + 2 * tf + j * (2 + tf)

theorem ackCellStart_zero (tf : Nat) : ackCellStart tf 0 = 2 + 2 * tf := by simp [ackCellStart]

theorem ackCellStart_succ (tf j : Nat) : ackCellStart tf (j + 1) = ackCellStart tf j + 2 + tf := by
  rw [ackCellStart, ackCellStart, Nat.succ_mul j]
  omega

/-- From tick 0 of a run the device hears a `TXA a` with this hold (R66, R144). -/
structure HearsAck (s : State) (tf : Nat) (a : Byte) : Prop where
  drive : ∀ h ≤ 2 * tf, s.hears (1 + h) true true
  data : ∀ j < 8, s.hears (ackCellStart tf j) (decide (j % 2 = 0)) (ackBit a j)
  clock : ∀ j < 8, ∀ h ≤ tf, s.hears (ackCellStart tf j + 1 + h) (decide (j % 2 = 1)) (ackBit a j)

section

variable {s : State} {tf : Nat} {a : Byte} (hr : ∀ n, s.noReset n) (hh : HearsAck s tf a)
  (hat : s.atUop .raRelease) (hword : s.cmdr = encode .rxa)

include hh in
/-- CLOCK keeps the phase of a bit until the CLOCK write of the next one (R66). -/
theorem HearsAck.clock_until {k j : Nat} (hk : k < 7) (hj : ackCellStart tf k + 1 ≤ j)
    (hlt : j < ackCellStart tf (k + 1) + 1) :
    (s.env.getD j PortIn.quiet).shows .clock (decide (k % 2 = 1)) := by
  rcases (Nat.le_of_lt_succ hlt).lt_or_eq with hbefore | rfl
  · rw [ackCellStart_succ] at hbefore
    obtain ⟨h, rfl⟩ := Nat.exists_eq_add_of_le hj
    exact (hh.clock k (by omega) h (by omega)).1
  · rw [odd_eq_even_succ]
    exact (hh.data (k + 1) (by omega)).1

include hr hh hat hword

/-- RXA before the sample that shows the CLOCK write of bit `k` (R147, R151). -/
theorem rxa_hears_bits {k : Nat} (hk : k < 8) :
    ∃ x, s.standsAt (ackCellStart tf k + 1) x ∧
      ReceivesAck s .raAwaitClock a k (decide (k % 2 = 0)) x := by
  induction k with
  | zero =>
    have hcell := ackCellStart_zero tf
    obtain ⟨x₀, h₀, hseed⟩ := receivesAck_release hr a hat hword
    obtain ⟨x₁, h₁, hwait⟩ := hseed.seeds hr h₀ (hh.drive 0 (Nat.zero_le _))
    refine hwait.waits hr h₁ (by omega) fun j hj hlt => ?_
    rcases (Nat.le_of_lt_succ hlt).lt_or_eq with hbefore | rfl
    · obtain ⟨h, rfl⟩ := Nat.exists_eq_add_of_le (show 1 ≤ j by omega)
      exact (hh.drive h (by omega)).1
    · exact (hh.data 0 hk).1
  | succ k ih =>
    have hcell := ackCellStart_succ tf k
    obtain ⟨x, hx, hxat⟩ := ih (by omega)
    obtain ⟨y, hy, hyat⟩ := hxat.stores hr hx (hh.clock k (by omega) 0 (Nat.zero_le _)) (odd_ne_even k)
      (by omega)
    rw [← odd_eq_even_succ]
    exact hyat.waits hr hy (by omega) fun j hj hlt => hh.clock_until (by omega) (by omega) hlt

/-- RXA receives the byte it hears: busy up to the eighth toggle, and done with its sample (R148, R151). -/
theorem rxa_receives_ack :
    (∃ x, s.standsAt (17 + 9 * tf) x ∧ x.busy = true) ∧
    ∃ y, s.standsAt (18 + 9 * tf) y ∧ y.ackv = a ∧ y.busy = false ∧ y.env = s.env := by
  have hlast : ackCellStart tf 7 + 1 = 17 + 9 * tf := by unfold ackCellStart; omega
  obtain ⟨x, hx, hxat⟩ := rxa_hears_bits hr hh hat hword (show 7 < 8 by omega)
  obtain ⟨y, hy, hdone⟩ := hxat.completes hr hx (hh.clock 7 (by omega) 0 (Nat.zero_le _)) (odd_ne_even 7)
  exact ⟨⟨x, hx.cast hlast.symm, hxat.carries.busy⟩, y, hy.cast (by omega), hdone⟩

end

end Sys2Proof.Machine

/-! ## A run among any other inputs is the run from acceptance (spec/44_system.md R155, R159) -/

namespace Sys2Proof.Machine

/-- While command `i` runs, it neither reads nor writes what `State.withUnused` replaces. -/
def IgnoresUnused (i : Instr) : Prop :=
  ∀ s l : State, s.busy = true → exec i (s.withUnused l) = onNext (·.withUnused l) (exec i s)

section

variable (s l : State)

theorem txaAfter_withUnused : txaAfter (s.withUnused l) = (txaAfter s).withUnused l := by
  simp only [txaAfter, State.withUnused_st]
  cases s.st
  case taBitClock => dsimp only; rw [State.ite_withUnused]; rfl
  all_goals rfl

theorem txaUop_withUnused (a : Byte) : txaUop a (s.withUnused l) = onNext (·.withUnused l) (txaUop a s) := by
  have hdelay (u : State) (n : Nat) :
      (u.withUnused l).delay n txaAfter = (u.delay n txaAfter).withUnused l := by
    unfold State.delay
    rw [State.ite_withUnused, ← txaAfter_withUnused]
    rfl
  simp only [txaUop, State.withUnused_st]
  cases s.st
  case taDrive => exact congrArg _ (hdelay { s.driveBothHigh with phase := false, bitIdx := 7 } _)
  case taBitClock => exact congrArg _ (hdelay s.clockPhase.ackBitDown _)
  all_goals rfl

theorem txa_countDown_withUnused :
    (s.withUnused l).countDown txaAfter = (s.countDown txaAfter).withUnused l := by
  unfold State.countDown
  rw [State.ite_withUnused, ← txaAfter_withUnused]
  rfl

end

/-- TXA reads no line, not BOUND and no loop register (R32, R144). -/
theorem ignoresUnused_txa (a : Byte) : IgnoresUnused (.txa a) := by
  intro s l hb
  by_cases hd : s.dlyCnt = 0
  · rw [exec_uop _ hb hd, exec_uop _ (s := s.withUnused l) hb hd]
    exact txaUop_withUnused s l a
  · rw [exec_countDown _ hb hd, exec_countDown _ (s := s.withUnused l) hb hd]
    exact congrArg _ (txa_countDown_withUnused s l)

/-- No reset and no word on the port of this tick. -/
def State.portQuiet (s : State) : Prop := s.port.rst = false ∧ s.port.cmdValid = false

theorem State.quiet.portQuiet_ticked {s : State} {n k : Nat} (h : s.quiet 0 n) (hk : k < n) :
    (s.ticked k).portQuiet := by
  rw [State.portQuiet, State.port_ticked (s := s) k rfl]
  exact h k (Nat.zero_le k) hk

theorem State.quiet.mono {s : State} {m n N : Nat} (h : s.quiet m N) (hn : n ≤ N) : s.quiet m n :=
  fun k hm hk => h k hm (hk.trans_le hn)

section

variable {i : Instr} {s l t : State} {n : Nat} (hi : IgnoresUnused i)

include hi

/-- One tick of the command, or of the core that it has left idle. -/
theorem IgnoresUnused.step_withUnused (hword : decode s.cmdr = .ok i) (hs : s.portQuiet) (hl : l.portQuiet)
    (h : step s = .next t) :
    t.cmdr = s.cmdr ∧ step (s.withUnused l) = .next (t.withUnused l.endTick) := by
  obtain ⟨hrst, hvalid⟩ := hs
  obtain ⟨hlrst, hlvalid⟩ := hl
  cases hb : s.busy
  · rw [step_quiet hb hrst hvalid] at h
    cases h
    exact ⟨rfl, step_quiet (s := s.withUnused l) hb hlrst hlvalid⟩
  · rw [step_busy hrst hb hword] at h
    obtain ⟨u, hu, rfl⟩ := onNext_next.mp h
    obtain ⟨hcmdr, -⟩ := exec_busy_keeps hb hu
    refine ⟨hcmdr, ?_⟩
    rw [step_busy (s := s.withUnused l) hlrst hb hword, hi s l hb, hu]
    rfl

/-- A run of the command, with other inputs as well. -/
theorem IgnoresUnused.runs_withUnused (hword : decode s.cmdr = .ok i) (hs : s.quiet 0 n) (hl : l.quiet 0 n)
    (h : runs n s = .next t) :
    t.cmdr = s.cmdr ∧ runs n (s.withUnused l) = .next (t.withUnused (l.ticked n)) := by
  induction n generalizing t with
  | zero =>
    cases h
    exact ⟨rfl, rfl⟩
  | succ n ih =>
    obtain ⟨u, hu⟩ := runs_le h (Nat.le_succ n)
    rw [runs_add n 1 hu, runs_one] at h
    obtain ⟨hcmdr, hrun⟩ := ih (hs.mono (Nat.le_succ n)) (hl.mono (Nat.le_succ n)) hu
    have hport : u.portQuiet := by
      rw [State.portQuiet, runs_port hu]
      exact hs n (Nat.zero_le n) (Nat.lt_succ_self n)
    obtain ⟨hkept, hnext⟩ :=
      hi.step_withUnused (hcmdr ▸ hword) hport (hl.portQuiet_ticked (Nat.lt_succ_self n)) h
    refine ⟨hkept.trans hcmdr, ?_⟩
    rw [runs_add n 1 hrun, runs_one, hnext, State.endTick_ticked]

end

/-- A waiting, bound core that is offered command `i`, and that its acceptance leaves where `s` stands but
for what the command does not use (R155). -/
def State.beforeAccept (s : State) (i : Instr) : State :=
  { s.idled with bound := true, env := [{ PortIn.quiet with cmdValid := true, cmd := encode i }] }

theorem beforeAccept_noReset (s : State) (i : Instr) (n : Nat) : (s.beforeAccept i).noReset n := by
  intro k _
  cases k <;> rfl

/-- Command `i`, in range, runs and stands before its first micro-operation, in a legal configuration. -/
structure AtStart (i : Instr) (s : State) : Prop where
  cfg : s.cfg.wf = true
  range : inRange s.cfg i = true
  uop : s.atUop (firstState i)
  word : decode s.cmdr = .ok i

section

variable {i : Instr} {s t : State} {n : Nat}

theorem AtStart.takesUp (h : AtStart i s) : TakesUp (s.beforeAccept i) i :=
  ⟨h.cfg, ⟨rfl, rfl, rfl⟩, rfl, h.range, rfl, decode_encode i⟩

theorem AtStart.withEnv (h : AtStart i s) (e : List PortIn) : AtStart i (s.withEnv e) :=
  ⟨h.cfg, h.range, h.uop, h.word⟩

theorem AtStart.latch (h : AtStart i s) : (((s.beforeAccept i).latch i).ticked 1).withUnused s = s := by
  obtain ⟨-, -, ⟨hb, hst, hd⟩, hword⟩ := h
  have henc := encode_of_decode hword
  cases s
  dsimp only at hb hst hd henc
  subst hb hst hd henc
  rfl

/-- The run of a command from its first state, among whatever inputs, is the run from its acceptance. -/
theorem IgnoresUnused.runs_of_beforeAccept (hi : IgnoresUnused i) (hstart : AtStart i s) (hs : s.quiet 0 n)
    (h : runs (1 + n) (s.beforeAccept i) = .next t) :
    runs n s = .next (t.withUnused (s.ticked n)) := by
  rw [runs_add 1 n (hstart.takesUp.standsAt_latch (beforeAccept_noReset s i 1))] at h
  obtain ⟨-, hrun⟩ := hi.runs_withUnused (s := ((s.beforeAccept i).latch i).ticked 1) (decode_encode i)
    (fun _ _ _ => ⟨rfl, rfl⟩) hs h
  rwa [hstart.latch] at hrun

/-- Its waveform is the one from its acceptance. -/
theorem IgnoresUnused.padsAfter_of_beforeAccept (hi : IgnoresUnused i) (hstart : AtStart i s)
    (hs : s.quiet 0 n) (h : runs (1 + n) (s.beforeAccept i) = .next t) : padsAfter n s = t.pads :=
  (padsAfter_eq (hi.runs_of_beforeAccept hstart hs h)).trans rfl

end

end Sys2Proof.Machine

/-! ## An acknowledgment gets across (spec/43_acknowledgment.md R151) -/

namespace Sys2Proof.Machine

/-- A device that has one other device with it is offered no word and is not reset. -/
theorem portsBeside_quiet (s : State) (pads : Nat → Pads) (N m n : Nat) :
    (s.withEnv (portsBeside pads N)).quiet m n := by
  intro k _ _
  show ((portsBeside pads N).getD k PortIn.quiet).rst = false ∧
    ((portsBeside pads N).getD k PortIn.quiet).cmdValid = false
  rcases Nat.lt_or_ge k N with hk | hk
  · rw [portsBeside_getD hk]
    exact ⟨rfl, rfl⟩
  · rw [List.getD_eq_default _ _ (by simpa [portsBeside] using hk)]
    exact ⟨rfl, rfl⟩

/-- Two devices with idle hosts, the second of which executes a command that reads no line: the bus runs as
the first device does that sees the levels of that command, and the second is as busy as it is alone
(R48, R49). -/
theorem netRun_beside {A B : Node} {i : Instr} {n N : Nat} {x t : State} (hA : A.host.idle)
    (hB : B.host.idle) (hAenv : A.dev.env = []) (hBenv : B.dev.env = []) (hi : IgnoresUnused i)
    (hstart : AtStart i B.dev) (hn : n ≤ N)
    (hx : runs n (A.dev.withEnv (portsBeside (padsAfter · B.dev) N)) = .next x)
    (ht : runs (1 + n) (B.dev.beforeAccept i) = .next t) :
    ∃ C D, netRun [A, B] (List.replicate n [true, true]) = .next [C, D] ∧ C.dev = x.withEnv [] ∧
      D.dev.busy = t.busy := by
  generalize ha : A.dev.withEnv (portsBeside (padsAfter · B.dev) N) = a at hx
  generalize hb : B.dev.withEnv (portsBeside (padsAfter · a) N) = b
  have hquiet (k : Nat) : b.quiet 0 k := hb ▸ portsBeside_quiet B.dev _ N 0 k
  have halone (k : Nat) : B.dev.quiet 0 k := fun j _ _ => by rw [hBenv]; exact ⟨rfl, rfl⟩
  have hbRuns {k : Nat} {u : State} (hu : runs (1 + k) (B.dev.beforeAccept i) = .next u) :
      runs k b = .next (u.withUnused (b.ticked k)) := by
    subst hb
    exact hi.runs_of_beforeAccept (hstart.withEnv _) (hquiet k) hu
  obtain ⟨hostA, hostB, hrun⟩ := netRun_pair hA hB (ha ▸ A.dev.withEnv_nil hAenv _)
    (hb ▸ B.dev.withEnv_nil hBenv _) hx (hbRuns ht) fun k hk => by
      obtain ⟨u, hu⟩ := runs_le hx hk.le
      obtain ⟨v, hv⟩ := runs_le ht (Nat.add_le_add_left hk.le 1)
      have hpads : padsAfter k B.dev = v.pads :=
        hi.padsAfter_of_beforeAccept hstart (halone k) hv
      refine ⟨u, _, hu, hbRuns hv, ?_, ?_⟩
      · rw [runs_port hu, ← ha]
        exact (portsBeside_getD (pads := (padsAfter · B.dev)) (by omega)).trans
          (congrArg (fun p => PortIn.among [p]) hpads)
      · rw [runs_port (hbRuns hv), ← hb, ← padsAfter_eq hu]
        exact portsBeside_getD (by omega)
  exact ⟨_, _, hrun, rfl, rfl⟩

/-- The ticks of TXA from TA_DRIVE to `done` (R144). -/
def txaTicks (c : Config) : Nat := 18 + 10 * holdTicks c

/-- A device that hears another one's TXA hears its byte (R66, R144). -/
theorem hearsAck_txa {s : State} {a : Byte} (hstart : AtStart (.txa a) s) (hs : ∀ n, s.quiet 0 n)
    (r : State) :
    HearsAck (r.withEnv (portsBeside (padsAfter · s) (txaTicks s.cfg))) (holdTicks s.cfg) a := by
  have hpos := holdTicks_pos hstart.cfg
  have hhold : holdTicks (s.beforeAccept (.txa a)).cfg = holdTicks s.cfg := rfl
  obtain ⟨hdrive, hcells, -⟩ := txaSendsEightBitCells (s.beforeAccept (.txa a)) a hstart.cfg
    hstart.takesUp.waiting rfl hstart.takesUp.offers (beforeAccept_noReset s _ _)
  have hwave {n k : Nat} {clk dat : Level}
      (h : ∃ t, runs n (s.beforeAccept (.txa a)) = .next t ∧ t.pads = ⟨clk, dat, true, true⟩)
      (hn : n = 1 + k) (hk : k < txaTicks s.cfg) :
      (r.withEnv (portsBeside (padsAfter · s) (txaTicks s.cfg))).hears k clk dat := by
    subst hn
    obtain ⟨t, ht, hp⟩ := h
    exact portsBeside_hears r hk
      (((ignoresUnused_txa a).padsAfter_of_beforeAccept hstart (hs k) ht).trans hp)
  have hbefore {j : Nat} (hj : j < 8) :
      ackCellStart (holdTicks s.cfg) j + 2 + holdTicks s.cfg ≤ txaTicks s.cfg := by
    have hcell : (j + 1) * (2 + holdTicks s.cfg) ≤ 8 * (2 + holdTicks s.cfg) := Nat.mul_le_mul_right _ hj
    rw [← ackCellStart_succ]
    unfold ackCellStart txaTicks
    omega
  constructor
  case drive =>
    intro h hh
    exact hwave (hdrive h hh) rfl (by unfold txaTicks; omega)
  case data =>
    intro j hj
    have hlt := hbefore hj
    obtain ⟨hdata, -⟩ := hcells j hj
    exact hwave hdata rfl (by omega)
  case clock =>
    intro j hj h hh
    have hlt := hbefore hj
    obtain ⟨-, hclock⟩ := hcells j hj
    obtain ⟨t, ht, -, hp⟩ := hclock h hh
    rw [hhold] at ht
    exact hwave ⟨t, ht, hp⟩ (by unfold ackCellStart; omega) (by omega)

/-- Settles O55: the receiver hears the waveform of TXA and is done with the sample of the eighth clock
write; the transmitter holds that write, and is done after TA_RESTORE. -/
theorem acknowledgmentRoundTrip : Obligations.AcknowledgmentRoundTrip := by
  intro A B a hA hB hAenv hBenv hAc hBc hAat hAi hBat hBi tf
  have hpos : 0 < tf := holdTicks_pos hBc
  have hstart : AtStart (.txa a) B.dev := ⟨hBc, rfl, hBat, hBi⟩
  have hhold : holdTicks (B.dev.beforeAccept (.txa a)).cfg = tf := rfl
  have hquiet (n : Nat) : B.dev.quiet 0 n := fun _ _ _ => by rw [hBenv]; exact ⟨rfl, rfl⟩
  obtain ⟨-, hcells, t, ht, ⟨htdone, -⟩, -⟩ := txaSendsEightBitCells (B.dev.beforeAccept (.txa a)) a hBc
    hstart.takesUp.waiting rfl hstart.takesUp.offers (beforeAccept_noReset B.dev _ _)
  obtain ⟨-, hlast⟩ := hcells 7 (by omega)
  rw [hhold] at hlast ht
  obtain ⟨u, hu, -⟩ := hlast 0 (Nat.zero_le _)
  obtain ⟨v, hv, hvbusy, -⟩ := hlast 1 hpos
  rw [show 3 + 2 * tf + 7 * (2 + tf) + 0 = 17 + 9 * tf by omega] at hu
  rw [show 3 + 2 * tf + 7 * (2 + tf) + 1 = 18 + 9 * tf by omega] at hv
  obtain ⟨⟨x, hx, hxbusy⟩, y, hy, hack, hydone, henv⟩ :=
    rxa_receives_ack (portsBeside_noReset A.dev _ _) (hearsAck_txa hstart hquiet A.dev) hAat
      (encode_of_decode hAi).symm
  have hyend := hy.idles hydone henv (N := 18 + 10 * tf) (by omega) (portsBeside_quiet A.dev _ _ _ _)
  have hrun {n : Nat} {x t : State} (hn : n ≤ txaTicks B.dev.cfg) :=
    netRun_beside (n := n) (x := x) (t := t) hA hB hAenv hBenv (ignoresUnused_txa a) hstart hn
  refine ⟨?before, ?received, ?both⟩
  case before =>
    obtain ⟨C, D, hnet, hC, -⟩ := hrun (by unfold txaTicks; omega) hx hu
    exact ⟨C, D, hnet, (congrArg State.busy hC).trans hxbusy⟩
  case received =>
    obtain ⟨C, D, hnet, hC, hD⟩ := hrun (by unfold txaTicks; omega) hy hv
    exact ⟨C, D, hnet, (congrArg State.ackv hC).trans hack, (congrArg State.busy hC).trans hydone,
      hD.trans hvbusy⟩
  case both =>
    obtain ⟨C, D, hnet, hC, hD⟩ := hrun le_rfl hyend ht
    exact ⟨C, D, hnet, (congrArg State.ackv hC).trans hack, (congrArg State.busy hC).trans hydone,
      hD.trans htdone⟩

end Sys2Proof.Machine

/-! ## What a tick is about, and the checks of acceptance (spec/44_system.md R155 to R158) -/

namespace Sys2Proof.Machine

/-- What the tick of a busy core is about (R155, R159, R200). -/
theorem State.work_busy {s : State} (hb : s.busy = true) :
    s.work = if s.port.rst then .reset else running (decode s.cmdr) := by rw [State.work, if_pos hb]

/-- Settles O9: the work of a busy core's tick is the reset or the command in CMDR, so the port's word is
read by nothing. -/
theorem busyCoreIgnoresCommandPort : Obligations.BusyCoreIgnoresCommandPort := by
  intro s v w hb
  refine step_withEnv (s := s) (e := { s.port with cmdValid := v, cmd := w } :: s.env.tail) ?_ rfl rfl
  rw [State.work_busy (s := s) hb]
  exact State.work_busy hb

/-- Without reset an idle core takes up the command on its port (R155). -/
theorem step_offers {i : Instr} {s : State} (hr : s.port.rst = false) (hb : s.busy = false)
    (ho : s.offers i) : step s = onNext State.endTick (exec i s) := by
  obtain ⟨hvalid, hword⟩ := ho
  have hwork : s.work = .command i := by simp [State.work, hr, hb, hvalid, hword, offered]
  rw [step, hwork]

/-- The tick in which it does so is the acceptance. -/
theorem step_accept {i : Instr} {s : State} (hr : s.port.rst = false) (hb : s.busy = false)
    (ho : s.offers i) : step s = .next (s.accept i).endTick := by
  rw [step_offers hr hb ho, exec_idle i hb, onNext]

/-- Settles O5: the three works of a tick without reset. -/
theorem stepRunsDecodedCommand : Obligations.StepRunsDecodedCommand := fun _ hr =>
  ⟨fun _ hb ho => step_offers hr hb ho, fun _ hb hi => step_busy hr hb hi, fun hb hv => step_quiet hb hr hv⟩

/-! ### The three outcomes of the checks -/

/-- Check (3) of R156. -/
theorem accept_notBound {i : Instr} {s : State} (hi : isLineCommand i = true) (hb : s.bound = false) :
    s.accept i = s.cmdError .notBound := if_pos (by simp [hi, hb])

/-- Check (4) of R156, where check (3) passed. -/
theorem accept_outOfRange {i : Instr} {s : State} (hb : isLineCommand i = true → s.bound = true)
    (hwf : i.wf s.cfg = false) : s.accept i = s.cmdError .range := by
  rw [State.accept, if_neg (by simpa using hb), inRange_eq_wf, hwf]
  rfl

/-- Both checks pass (R155, R156). -/
theorem accept_passed {i : Instr} {s : State} (hb : isLineCommand i = true → s.bound = true)
    (hwf : i.wf s.cfg = true) : s.accept i = s.latch i := by
  rw [State.accept, if_neg (by simpa using hb), inRange_eq_wf, hwf]
  rfl

/-- Settles O11: a bad word is an error of the decoder, a command goes through the checks of `accept`, and one
that passes is latched with the word that it was decoded from. -/
theorem acceptanceChecksInOrder : Obligations.AcceptanceChecksInOrder := by
  intro s hb hr hv
  refine ⟨fun e he => step_badWord hb hr hv he, fun i hi => ?_⟩
  rw [step_accept hr hb ⟨hv, hi⟩]
  refine ⟨fun hline hbound => ?_, fun hbound hwf => ?_, fun hbound hwf => ?_⟩
  · rw [accept_notBound hline hbound]
    rfl
  · rw [accept_outOfRange hbound hwf]
    rfl
  · rw [accept_passed hbound hwf]
    exact ⟨_, rfl, encode_of_decode hi, rfl, rfl, rfl⟩

/-! ### NOP and BIND -/

theorem microOp_nop {s : State} (h : s.st = .exec) : microOp .nop s = .next s.done :=
  inExec_exec (uop := fun s => .next s.done) h

theorem microOp_bind {s : State} (h : s.st = .exec) : microOp .bind s = .next { s with bound := true }.done :=
  inExec_exec (uop := fun s => .next (State.done { s with bound := true })) h

/-- Settles O16: `done` in EXEC, and the latch in an idle core. -/
theorem nopChangesNothing : Obligations.NopChangesNothing := by
  intro s
  refine ⟨fun ⟨hb, hst, hd⟩ => (exec_uop _ hb hd).trans (microOp_nop hst), fun hb => ?_⟩
  rw [exec_idle _ hb, accept_passed (by simp [isLineCommand]) rfl]
  exact ⟨_, rfl, rfl, rfl, rfl, rfl⟩

/-- No micro-operation clears BOUND: BIND alone writes it, and writes 1 (R32, R158). -/
theorem microOp_bound {i : Instr} {s t : State} (hb : s.bound = true) (h : microOp i s = .next t) :
    t.bound = true := by
  cases i
  case bind =>
    dsimp only [microOp] at h
    rcases inExec_next h with h | rfl
    · cases h
      rfl
    · exact hb
  all_goals
    have hw := microOp_writesOnly h
    rw [hw]
    exact hb

/-- No tick of a command clears BOUND. -/
theorem exec_bound {i : Instr} {s t : State} (hb : s.bound = true) (h : exec i s = .next t) :
    t.bound = true := by
  rcases exec_next h with ⟨-, rfl⟩ | ⟨-, -, hu⟩ | ⟨-, -, rfl⟩
  · rcases s.accept_cases i with ⟨-, -, he⟩ | ⟨-, -, he⟩ | ⟨-, -, he⟩ <;> rw [he] <;> exact hb
  · exact microOp_bound hb hu
  · rw [countDown_frame]
    exact hb

/-- Only the reset input makes a tick a reset (R200). -/
theorem State.port_rst_of_work {s : State} (hw : s.work = .reset) : s.port.rst = true := by
  rcases s.work_cases with ⟨hrst, -⟩ | ⟨-, -, he⟩ | ⟨-, -, -, he⟩ | ⟨-, -, -, he⟩
  · exact hrst
  · cases hd : decode s.cmdr <;> simp [hw, hd, running] at he
  · cases hd : decode s.port.cmd <;> simp [hw, hd, offered] at he
  · simp [hw] at he

/-- No tick without reset clears BOUND (R158). -/
theorem step_bound {s t : State} (hr : s.port.rst = false) (hb : s.bound = true) (h : step s = .next t) :
    t.bound = true := by
  rcases step_next h with ⟨hw, -⟩ | ⟨i, u, -, hu, rfl⟩ | ⟨e, -, rfl⟩ | ⟨-, rfl⟩
  · exact absurd (State.port_rst_of_work hw) (by simp [hr])
  · exact exec_bound (t := u) hb hu
  · exact hb
  · exact hb

/-- Settles O17: the write of BIND, which repeats itself; no other tick but a reset clears BOUND; and the bound
check refuses the four line commands. -/
theorem bindSetsBoundForGood : Obligations.BindSetsBoundForGood := by
  have hexec (s : State) : s.atUop .exec → exec .bind s = .next { s with bound := true }.done :=
    fun ⟨hb, hst, hd⟩ => (exec_uop _ hb hd).trans (microOp_bind hst)
  refine ⟨hexec, fun s hat hbound => ?_, fun s t hr hbound h => step_bound hr hbound h,
    fun s i hb hbound hi => ?_⟩
  · rw [hexec s hat, ← hbound]
    rfl
  · have hline : isLineCommand i = true := by obtain ⟨b, rfl | rfl | rfl | rfl⟩ := hi <;> rfl
    rw [exec_idle i hb, accept_notBound hline hbound]
    rfl

/-! ### The commands of one tick -/

/-- The commands whose one micro-operation ends them (R224). -/
def isOneTick (i : Instr) : Prop :=
  ∃ b, i = .nop ∨ i = .bind ∨ i = .putb b ∨ i = .blde b ∨ i = .setl b ∨ i = .getb b

theorem isOneTick.not_line {i : Instr} (h : isOneTick i) : isLineCommand i = false := by
  obtain ⟨b, rfl | rfl | rfl | rfl | rfl | rfl⟩ := h <;> rfl

theorem isOneTick.firstState {i : Instr} (h : isOneTick i) : firstState i = .exec := by
  obtain ⟨b, rfl | rfl | rfl | rfl | rfl | rfl⟩ := h <;> rfl

/-- The micro-operation of such a command ends in `done`. -/
theorem isOneTick.microOp_waiting {i : Instr} {s : State} (h : isOneTick i) (hst : s.st = .exec)
    (hd : s.dlyCnt = 0) (hlen : s.len.toNat ≤ s.cfg.payloadCap) (hwf : i.wf s.cfg = true) :
    ∃ t, microOp i s = .next t ∧ t.waiting := by
  obtain ⟨b, rfl | rfl | rfl | rfl | rfl | rfl⟩ := h
  · exact ⟨_, microOp_nop hst, State.done_waiting hd⟩
  · exact ⟨_, microOp_bind hst, rfl, rfl, hd⟩
  · exact ⟨_, microOp_putb hst b, State.done_waiting (by rw [putbTick_frame]; exact hd)⟩
  · exact ⟨_, microOp_blde hst b (trailer_inside hlen), rfl, rfl, hd⟩
  · exact ⟨_, microOp_setl hst b, rfl, rfl, hd⟩
  · exact ⟨_, microOp_getb hst b (of_decide_eq_true hwf), rfl, rfl, hd⟩

/-- Settles O15: the latch of the accepting tick, and the one micro-operation in the next. -/
theorem oneTickCommandsTakeOneTick : Obligations.OneTickCommandsTakeOneTick := by
  intro s i hw _ hlen hr ho hwf (hi : isOneTick i)
  have ⟨_, _, hd⟩ := hw
  have hlatch : s.standsAt 1 (s.latch i) :=
    hw.standsAt_latch ho hi.not_line (inRange_eq_wf s.cfg i ▸ hwf) (hr.mono (by omega))
  obtain ⟨u, hu, hwait⟩ :=
    hi.microOp_waiting (s := (s.latch i).ticked 1) hi.firstState hd hlen hwf
  have hstep : step ((s.latch i).ticked 1) = .next u.endTick := by
    rw [step_busy (hr.port_rst (x := s.latch i) one_lt_two rfl) rfl (decode_encode i),
      exec_uop i (s := (s.latch i).ticked 1) rfl hd, hu, onNext]
  exact ⟨_, u.endTick, hlatch, rfl, hi.firstState, rfl, (runs_add 1 1 hlatch).trans (runs_one.mpr hstep),
    hwait⟩

end Sys2Proof.Machine

/-! ## Every command but RXF and RXA ends (spec/44_system.md R160; spec/70_reset_and_hazards.md R223, R224)

The measure is `ticksLeft`: the rest of the present delay, and `2 + TF` ticks for each micro-operation that is
still to come. A tick of a delay lowers the first part and does not raise the number of micro-operations; a
micro-operation lowers that number, and the delay that it begins is shorter than what the drop is worth. -/

namespace Sys2Proof.Machine

/-! ### The micro-operations left -/

/-- The micro-operation of the present state, if it is still to come: it is not while its delay runs. -/
def opPending (s : State) : Nat := if s.dlyCnt = 0 then 1 else 0

theorem opPending_le (s : State) : opPending s ≤ 1 := by
  unfold opPending
  split_ifs <;> omega

/-- The bits from the position on to the end of `m` bytes (R16, R103). -/
def bitsLeft (m : Byte) (s : State) : Nat := 8 * m.toNat - (8 * s.byteIdx.toNat + (7 - s.bitIdx.toNat))

/-- The micro-operations that TXF has left: two for each bit and three for the stop condition (R108). -/
def txfOpsLeft (m : Byte) (s : State) : Nat :=
  match s.st with
  | .tfDrive => 5 + 16 * m.toNat + opPending s
  | .tfStartLo => 4 + 16 * m.toNat + opPending s
  | .tfStartHi => 3 + 16 * m.toNat + opPending s
  | .tfBitData => 3 + 2 * bitsLeft m s
  | .tfBitClock => 3 + 2 * bitsLeft m s - opPending s
  | .tfForce => 2 + opPending s
  | .tfStopLo => 1 + opPending s
  | .tfStopHi => opPending s
  | _ => 0

/-- The bits that TXA has left at this BITIDX and PHASE; none behind the eighth (R142, R143; log 12). -/
def ackBitsLeft (bit : BitVec 3) (phase : Level) : Nat := if bit = 0 ∧ phase = false then 0 else bit.toNat + 1

/-- The micro-operations that TXA has left: two for each bit and TA_RESTORE (R144). TA_DRIVE counts twice, for
its delay is of two holds. -/
def txaOpsLeft (s : State) : Nat :=
  match s.st with
  | .taDrive => 17 + 2 * opPending s
  | .taBitData => 1 + 2 * ackBitsLeft s.bitIdx s.phase
  | .taBitClock => 1 + 2 * ackBitsLeft s.bitIdx s.phase - opPending s
  | .taRestore => 1
  | _ => 0

/-- `n` micro-operations of state EXEC, none in another state (R22). -/
def execOpsLeft (n : Nat) (s : State) : Nat := if s.st = .exec then n else 0

/-- The micro-operations that a command has left. Of RXF and RXA it says nothing: they wait for the bus. -/
def opsLeft : Instr → State → Nat
  | .txf m, s => txfOpsLeft m s
  | .txa _, s => txaOpsLeft s
  | .clr, s => execOpsLeft (bufCap s.cfg - s.loopIdx) s
  | .blds, s => execOpsLeft (bufCap s.cfg - s.loopIdx) s
  | .vfy, s => execOpsLeft (s.len.toNat + 1 - s.loopIdx) s
  | _, s => execOpsLeft 1 s

/-- The ticks that a command has left at most: those of the present delay, and a hold with two ticks more for
each micro-operation. -/
def ticksLeft (i : Instr) (s : State) : Nat := s.dlyCnt + (2 + holdTicks s.cfg) * opsLeft i s

section

variable {s : State}

theorem txfOpsLeft_bitData (m : Byte) (hst : s.st = .tfBitData) : txfOpsLeft m s = 3 + 2 * bitsLeft m s := by
  simp only [txfOpsLeft, hst]

theorem txfOpsLeft_bitClock (m : Byte) (hst : s.st = .tfBitClock) :
    txfOpsLeft m s = 3 + 2 * bitsLeft m s - opPending s := by simp only [txfOpsLeft, hst]

theorem txfOpsLeft_startHi (m : Byte) (hst : s.st = .tfStartHi) :
    txfOpsLeft m s = 3 + 16 * m.toNat + opPending s := by simp only [txfOpsLeft, hst]

theorem txaOpsLeft_bitData (hst : s.st = .taBitData) :
    txaOpsLeft s = 1 + 2 * ackBitsLeft s.bitIdx s.phase := by simp only [txaOpsLeft, hst]

theorem txaOpsLeft_bitClock (hst : s.st = .taBitClock) :
    txaOpsLeft s = 1 + 2 * ackBitsLeft s.bitIdx s.phase - opPending s := by simp only [txaOpsLeft, hst]

end

theorem opsLeft_of_idle {i : Instr} {s : State} (hst : s.st = .idle) : opsLeft i s = 0 := by
  cases i <;> simp [opsLeft, txfOpsLeft, txaOpsLeft, execOpsLeft, hst]

/-- A core that waits has no ticks left. -/
theorem State.waiting.ticksLeft {s : State} (h : s.waiting) (i : Instr) : ticksLeft i s = 0 := by
  obtain ⟨-, hst, hd⟩ := h
  simp [Machine.ticksLeft, hd, opsLeft_of_idle hst]

/-- A tick that performs `k` of the micro-operations and begins a delay of at most `k` holds. -/
theorem ticksLeft_lt {i : Instr} {s t : State} (k : Nat) (hk : 0 < k) (hcfg : t.cfg = s.cfg)
    (hd : t.dlyCnt ≤ k * holdTicks s.cfg) (hops : opsLeft i t + k ≤ opsLeft i s) :
    ticksLeft i t < ticksLeft i s := by
  have hmul : (2 + holdTicks s.cfg) * (opsLeft i t + k) ≤ (2 + holdTicks s.cfg) * opsLeft i s :=
    Nat.mul_le_mul_left _ hops
  rw [Nat.mul_add, Nat.add_mul 2 _ k, Nat.mul_comm (holdTicks _) k] at hmul
  unfold ticksLeft
  rw [hcfg]
  omega

/-! ### A micro-operation lowers their number -/

/-- The one micro-operation of a command that ends with it. -/
theorem done_ticksLeft {i : Instr} {s u : State} (hd : u.dlyCnt = 0) (hpos : 0 < ticksLeft i s) :
    ticksLeft i u.done < ticksLeft i s := by rwa [(State.done_waiting hd).ticksLeft i]

theorem ticksLeft_pos {i : Instr} {s : State} (h : 0 < opsLeft i s) : 0 < ticksLeft i s :=
  Nat.add_pos_right _ (Nat.mul_pos (by omega) h)

/-- The clearing loop has one byte less to clear, or is done (R83). -/
theorem clearTick_ticksLeft {i : Instr} {s t : State}
    (hi : ∀ u : State, opsLeft i u = execOpsLeft (bufCap u.cfg - u.loopIdx) u) (hst : s.st = .exec)
    (hd : s.dlyCnt = 0) (h : clearTick s = .next t) : ticksLeft i t < ticksLeft i s := by
  obtain ⟨hlt, ⟨-, rfl⟩ | rfl⟩ := clearTick_next h
  · refine ticksLeft_lt 1 one_pos rfl (hd.trans_le (Nat.zero_le _)) ?_
    simp only [hi, execOpsLeft, State.putByte_st, State.putByte_cfg, hst, if_true]
    omega
  · refine done_ticksLeft hd (ticksLeft_pos ?_)
    simp only [hi, execOpsLeft, hst, if_true]
    omega

theorem bldsTick_ticksLeft {s t : State} (hst : s.st = .exec) (hd : s.dlyCnt = 0)
    (h : bldsTick s = .next t) : ticksLeft .blds t < ticksLeft .blds s := by
  by_cases h0 : s.loopIdx = 0
  · rw [bldsTick_first h0] at h
    exact clearTick_ticksLeft (s := s.emptied) (fun _ => rfl) hst hd h
  · rw [bldsTick_later h0] at h
    exact clearTick_ticksLeft (fun _ => rfl) hst hd h

/-- VFY has one checksum step less to go, or is done (R89). -/
theorem vfyTick_ticksLeft {s t : State} (hst : s.st = .exec) (hd : s.dlyCnt = 0)
    (hidx : s.loopIdx ≤ s.len.toNat) (h : vfyTick s = .next t) : ticksLeft .vfy t < ticksLeft .vfy s := by
  have hops : opsLeft .vfy s = s.len.toNat + 1 - s.loopIdx := if_pos hst
  unfold vfyTick at h
  split_ifs at h with hlt <;> obtain ⟨-, h⟩ := withIndex_next.mp h <;> cases h
  · refine ticksLeft_lt 1 one_pos rfl (hd.trans_le (Nat.zero_le _)) ?_
    rw [hops, show opsLeft .vfy (vfyStep s) = s.len.toNat + 1 - (s.loopIdx + 1) from if_pos hst]
    omega
  · exact done_ticksLeft hd (ticksLeft_pos (by omega))

/-! ### TXF -/

theorem advanceBit_bitsLeft {m : Byte} {s : State} (h : s.byteIdx.toNat < m.toNat) :
    bitsLeft m s.advanceBit + 1 = bitsLeft m s := by
  unfold bitsLeft
  rw [State.advanceBit_byteIdx, State.advanceBit_bitIdx]
  split_ifs with h0
  · rw [h0, show (s.byteIdx + 1).toNat = s.byteIdx.toNat + 1 by bv_omega]
    show 8 * m.toNat - (8 * (s.byteIdx.toNat + 1) + (7 - 7)) + 1 =
      8 * m.toNat - (8 * s.byteIdx.toNat + (7 - 0))
    omega
  · have hpos : 0 < s.bitIdx.toNat := by bv_omega
    rw [show (s.bitIdx - 1).toNat = s.bitIdx.toNat - 1 by bv_omega]
    omega

/-- A write of TXF and its hold (R108). -/
theorem txfHold_ticksLeft {m : Byte} {s u t : State} (h : txfHold m u = .next t) (hc : s.cfg.wf = true)
    (hcfg : u.cfg = s.cfg) (hops : txfOpsLeft m (u.withDelay (holdTicks s.cfg)) < txfOpsLeft m s) :
    ticksLeft (.txf m) t < ticksLeft (.txf m) s := by
  rw [← hcfg] at hc hops
  obtain rfl := txfHold_next hc h
  refine ticksLeft_lt 1 one_pos hcfg ?_ hops
  rw [hcfg, one_mul]

theorem txfUop_ticksLeft {m : Byte} {s t : State} (hc : s.cfg.wf = true) (hrun : Running (.txf m) s)
    (hd : s.dlyCnt = 0) (h : txfUop m s = .next t) : ticksLeft (.txf m) t < ticksLeft (.txf m) s := by
  obtain ⟨-, ho, -, hinv⟩ := hrun
  have hT : holdTicks s.cfg ≠ 0 := (holdTicks_pos hc).ne'
  have hpending : opPending s = 1 := if_pos hd
  cases hst : s.st <;> simp only [runInv, txfInv, hst] at hinv <;> simp only [txfUop, hst] at h
  case tfBitData =>
    obtain ⟨-, h⟩ := withIndex_next.mp h
    cases h
    refine ticksLeft_lt 1 one_pos rfl (hd.trans_le (Nat.zero_le _)) ?_
    rw [opsLeft, opsLeft, txfOpsLeft_bitData m hst, txfOpsLeft_bitClock m rfl]
    show 3 + 2 * bitsLeft m s - opPending s + 1 ≤ _
    omega
  case tfBitClock =>
    have hbits := advanceBit_bitsLeft (m := m) (s := s.clockPhase) (by tauto)
    refine txfHold_ticksLeft h hc rfl ?_
    rw [txfOpsLeft_bitClock m hst, txfOpsLeft_bitClock (s := s.clockPhase.advanceBit.withDelay _) m hst,
      hpending]
    show 3 + 2 * bitsLeft m s.clockPhase.advanceBit - _ < 3 + 2 * bitsLeft m s.clockPhase - 1
    omega
  case tfDrive | tfStartLo | tfStartHi | tfForce | tfStopLo | tfStopHi =>
    refine txfHold_ticksLeft h hc rfl ?_
    simp [txfOpsLeft, opPending, State.withDelay, hst, hd, hT]
  all_goals simp [ownsState, hst] at ho

/-! ### TXA -/

/-- Where the phase fits the position, the clock write of a bit leaves one bit less (R142, R143). -/
theorem ackBitDown_ackBitsLeft {s : State} (h : phaseFits s) :
    ackBitsLeft s.clockPhase.ackBitDown.bitIdx s.clockPhase.ackBitDown.phase + 1 =
      ackBitsLeft s.bitIdx s.phase := by
  have hall : ∀ b : BitVec 3, ackBitsLeft (if b = 0 then 0 else b - 1) (!!b.getLsbD 0) + 1 =
      ackBitsLeft b (!b.getLsbD 0) := by decide
  show ackBitsLeft (if s.bitIdx = 0 then 0 else s.bitIdx - 1) (!s.phase) + 1 = _
  rw [h]
  exact hall s.bitIdx

/-- A write of TXA and its delay of `k` holds (R144). -/
theorem txaDelay_ticksLeft {a : Byte} {s u : State} {n : Nat} (k : Nat) (hk : 0 < k) (hcfg : u.cfg = s.cfg)
    (hn : n ≠ 0) (hle : n ≤ k * holdTicks s.cfg) (hops : txaOpsLeft (u.withDelay n) + k ≤ txaOpsLeft s) :
    ticksLeft (.txa a) (u.delay n txaAfter) < ticksLeft (.txa a) s := by
  rw [State.delay, if_neg hn]
  exact ticksLeft_lt k hk hcfg hle hops

theorem txaUop_ticksLeft {a : Byte} {s t : State} (hc : s.cfg.wf = true) (hrun : Running (.txa a) s)
    (hd : s.dlyCnt = 0) (h : txaUop a s = .next t) : ticksLeft (.txa a) t < ticksLeft (.txa a) s := by
  obtain ⟨-, ho, -, hinv⟩ := hrun
  have hT := holdTicks_pos hc
  have hpending : opPending s = 1 := if_pos hd
  cases hst : s.st <;> simp only [runInv, txaInv, hst] at hinv <;> simp only [txaUop, hst] at h <;> cases h
  case taDrive =>
    refine txaDelay_ticksLeft 2 two_pos rfl (by omega) le_rfl ?_
    simp [txaOpsLeft, opPending, State.withDelay, hst, hd, hT.ne']
  case taBitData =>
    refine ticksLeft_lt 1 one_pos rfl (hd.trans_le (Nat.zero_le _)) ?_
    rw [opsLeft, opsLeft, txaOpsLeft_bitData hst, txaOpsLeft_bitClock rfl]
    show 1 + 2 * ackBitsLeft s.bitIdx s.phase - opPending s + 1 ≤ _
    omega
  case taBitClock =>
    obtain ⟨-, -, hfits⟩ := hinv
    have hbits := ackBitDown_ackBitsLeft (hfits.resolve_right fun hend => hend.1 hd)
    refine txaDelay_ticksLeft 1 one_pos rfl hT.ne' (one_mul _).ge ?_
    rw [txaOpsLeft_bitClock hst, txaOpsLeft_bitClock (s := s.clockPhase.ackBitDown.withDelay _) hst, hpending]
    show 1 + 2 * ackBitsLeft s.clockPhase.ackBitDown.bitIdx s.clockPhase.ackBitDown.phase - _ + 1 ≤ _
    omega
  case taRestore => exact done_ticksLeft hd (ticksLeft_pos (by simp [opsLeft, txaOpsLeft, hst]))
  all_goals simp [ownsState, hst] at ho

/-! ### A tick of any command but RXF and RXA -/

theorem oneTick_ticksLeft {i : Instr} {s t : State} (hi : isOneTick i) (hr : RegInv s) (hwf : i.wf s.cfg = true)
    (hrun : Running i s) (hd : s.dlyCnt = 0) (h : microOp i s = .next t) :
    ticksLeft i t < ticksLeft i s := by
  have hst := hrun.st_exec hi.not_line
  obtain ⟨u, hu, hwait⟩ := hi.microOp_waiting hst hd hr.len hwf
  cases hu.symm.trans h
  have hops : opsLeft i s = 1 := by
    obtain ⟨b, rfl | rfl | rfl | rfl | rfl | rfl⟩ := hi <;> exact if_pos hst
  rw [hwait.ticksLeft i]
  exact ticksLeft_pos (by omega)

/-- RXF and RXA wait for the bus (R132, R150, R160). -/
def waitsForBus (i : Instr) : Prop := i = .rxf ∨ i = .rxa

/-- Every micro-operation of another command leaves fewer ticks. -/
theorem microOp_ticksLeft {i : Instr} {s t : State} (hi : ¬ waitsForBus i) (hr : RegInv s)
    (ha : Accepted i s) (hrun : Running i s) (hd : s.dlyCnt = 0) (h : microOp i s = .next t) :
    ticksLeft i t < ticksLeft i s := by
  have hinv := hrun.inv
  have hexec := hrun.st_exec
  cases i
  case rxf => exact absurd (.inl rfl) hi
  case rxa => exact absurd (.inr rfl) hi
  case txf m => exact txfUop_ticksLeft hr.cfg hrun hd h
  case txa a => exact txaUop_ticksLeft hr.cfg hrun hd h
  case clr => exact clearTick_ticksLeft (fun _ => rfl) (hexec rfl) hd (microOp_clr (hexec rfl) ▸ h)
  case blds => exact bldsTick_ticksLeft (hexec rfl) hd (microOp_blds (hexec rfl) ▸ h)
  case vfy => exact vfyTick_ticksLeft (hexec rfl) hd hinv (microOp_vfy (hexec rfl) ▸ h)
  case nop | bind => exact oneTick_ticksLeft ⟨0, by simp⟩ hr ha.wf hrun hd h
  case putb b | blde b | setl b | getb b => exact oneTick_ticksLeft ⟨b, by simp⟩ hr ha.wf hrun hd h

/-! ### A tick of a delay -/

/-- How much of a delay is left does not matter to the micro-operations left. -/
theorem opsLeft_withDelay {i : Instr} {s : State} {n : Nat} (hd : s.dlyCnt ≠ 0) (hn : n ≠ 0) :
    opsLeft i (s.withDelay n) = opsLeft i s := by
  have hpending : opPending (s.withDelay n) = opPending s := (if_neg hn).trans (if_neg hd).symm
  cases i
  case txf m =>
    simp only [opsLeft, txfOpsLeft, hpending]
    rfl
  case txa a =>
    simp only [opsLeft, txaOpsLeft, hpending]
    rfl
  all_goals rfl

theorem txfLoop_opsLeft (m : Byte) (s : State) : txfOpsLeft m (txfLoop m s) ≤ 3 + 2 * bitsLeft m s := by
  unfold txfLoop
  split_ifs
  · exact le_rfl
  · have hpending := opPending_le s
    show 2 + opPending s ≤ _
    omega

/-- Where TXF goes after a hold, no more micro-operations are left (R108). -/
theorem txfAfter_opsLeft {m : Byte} {s : State} (hrun : Running (.txf m) s) (hd : s.dlyCnt ≠ 0) :
    txfOpsLeft m (txfAfter m (s.withDelay 0)) ≤ txfOpsLeft m s := by
  obtain ⟨-, ho, hdelay, hinv⟩ := hrun
  obtain ⟨hs, -⟩ := hdelay hd
  have hpending : opPending s = 0 := if_neg hd
  have hloop := txfLoop_opsLeft m (s.withDelay 0)
  have hst0 : (s.withDelay 0).st = s.st := rfl
  cases hst : s.st <;> simp only [runInv, txfInv, hst] at hinv <;> simp only [txfAfter, hst0, hst]
  case tfBitClock =>
    rw [txfOpsLeft_bitClock m hst, hpending]
    exact hloop
  case tfStartHi =>
    have hbits : bitsLeft m s ≤ 8 * m.toNat := Nat.sub_le _ _
    rw [txfOpsLeft_startHi m hst]
    refine hloop.trans ?_
    show 3 + 2 * bitsLeft m s ≤ _
    omega
  case tfForce =>
    obtain ⟨-, -, hphase, -⟩ := hinv
    rw [if_neg (by simp [State.withDelay, hphase])]
    simp [txfOpsLeft, opPending, hst, hd, State.withDelay]
  case tfDrive | tfStartLo | tfStopLo =>
    simp [txfOpsLeft, opPending, hst, hd, State.withDelay]
  case tfStopHi => exact Nat.zero_le _
  all_goals simp [ownsState, delayState, hst] at ho hs

/-- Where TXA goes after a delay, no more micro-operations are left (R144). -/
theorem txaAfter_opsLeft {a : Byte} {s : State} (hrun : Running (.txa a) s) (hd : s.dlyCnt ≠ 0) :
    txaOpsLeft (txaAfter (s.withDelay 0)) ≤ txaOpsLeft s := by
  obtain ⟨-, ho, hdelay, hinv⟩ := hrun
  obtain ⟨hs, -⟩ := hdelay hd
  have hpending : opPending s = 0 := if_neg hd
  have hst0 : (s.withDelay 0).st = s.st := rfl
  cases hst : s.st <;> simp only [runInv, txaInv, hst] at hinv
  case taDrive =>
    obtain ⟨hbit, hphase, -⟩ := hinv hd
    simp only [txaAfter, hst0, hst, txaOpsLeft, hpending]
    show 1 + 2 * ackBitsLeft s.bitIdx s.phase ≤ _
    rw [hbit, hphase]
    decide
  case taBitClock =>
    rw [txaOpsLeft_bitClock hst, hpending, txaAfter_bitClock (s := s.withDelay 0) hst]
    split_ifs
    · exact Nat.le_add_right 1 _
    · exact le_rfl
  all_goals simp [ownsState, delayState, hst] at ho hs

theorem countDown_ticksLeft {i : Instr} {s : State} (hi : ¬ waitsForBus i) (hrun : Running i s)
    (hd : s.dlyCnt ≠ 0) : ticksLeft i (s.countDown (afterDelay i)) < ticksLeft i s := by
  have hops : opsLeft i (s.countDown (afterDelay i)) ≤ opsLeft i s := by
    rcases s.countDown_cases (afterDelay i) with ⟨-, he⟩ | ⟨h1, he⟩ <;> rw [he]
    · obtain ⟨m, rfl⟩ | ⟨a, rfl⟩ | rfl := hrun.runs_delay hd
      · exact txfAfter_opsLeft hrun hd
      · exact txaAfter_opsLeft hrun hd
      · exact absurd (.inl rfl) hi
    · exact (opsLeft_withDelay hd (by omega)).le
  have hmul : (2 + holdTicks s.cfg) * opsLeft i (s.countDown (afterDelay i)) ≤
      (2 + holdTicks s.cfg) * opsLeft i s := Nat.mul_le_mul_left _ hops
  have hdly : (s.countDown (afterDelay i)).dlyCnt = s.dlyCnt - 1 := by rw [countDown_frame]
  obtain ⟨hcfg, -⟩ := countDown_keeps i s
  unfold ticksLeft
  rw [hcfg, hdly]
  omega

/-! ### A run -/

/-- A tick of a running command that does not wait for the bus leaves fewer ticks. -/
theorem exec_ticksLeft {i : Instr} {s : State} (hi : ¬ waitsForBus i) (hr : RegInv s) (ha : Accepted i s)
    (hrun : Running i s) : ∃ t, exec i s = .next t ∧ ticksLeft i t < ticksLeft i s := by
  obtain ⟨t, ht⟩ := exec_running_answers hr ha hrun
  refine ⟨t, ht, ?_⟩
  rcases exec_busy_next hrun.busy ht with ⟨hd, hu⟩ | ⟨hd, rfl⟩
  · exact microOp_ticksLeft hi hr ha hrun hd hu
  · exact countDown_ticksLeft hi hrun hd

theorem ticksLeft_endTick (i : Instr) (s : State) : ticksLeft i s.endTick = ticksLeft i s := by cases i <;> rfl

/-- One tick passed, one tick less without reset. -/
theorem State.noReset.step {s t : State} {n : Nat} (h : s.noReset (n + 1)) (hst : step s = .next t) :
    t.noReset n := by
  intro k hk
  have hk := h (k + 1) (Nat.succ_lt_succ hk)
  rwa [step_env hst, List.getD_eq_getElem?_getD, List.getElem?_tail, ← List.getD_eq_getElem?_getD]

/-- A running command that does not wait for the bus is done within the ticks that it has left. -/
theorem finishes_within {i : Instr} (hi : ¬ waitsForBus i) {n : Nat} {s : State} (hs : DeviceInv s)
    (hb : s.busy = true) (hword : decode s.cmdr = .ok i) (hn : ticksLeft i s ≤ n) (hr : s.noReset n) :
    ∃ k ≤ n, ∃ t, runs k s = .next t ∧ t.busy = false ∧ t.st = .idle := by
  induction n generalizing s with
  | zero =>
    obtain ⟨ha, hrun⟩ := hs.running_of_decode hb hword
    obtain ⟨u, -, hlt⟩ := exec_ticksLeft hi hs.regInv ha hrun
    omega
  | succ n ih =>
    obtain ⟨ha, hrun⟩ := hs.running_of_decode hb hword
    obtain ⟨u, hu, hlt⟩ := exec_ticksLeft hi hs.regInv ha hrun
    have hstep : step s = .next u.endTick := by
      rw [step_busy (runs_port (runs_zero s) ▸ hr 0 n.succ_pos) hb hword, hu, onNext]
    have ht : DeviceInv u.endTick := stepKeepsDeviceInv s _ hs hstep
    cases hbusy : u.endTick.busy
    · exact ⟨1, by omega, _, runs_one.mpr hstep, hbusy, ht.idle.mp hbusy⟩
    · obtain ⟨hcmdr, -⟩ := exec_busy_keeps hb hu
      obtain ⟨k, hk, t, hrest⟩ :=
        ih ht hbusy (hcmdr ▸ hword) (by rw [ticksLeft_endTick]; omega) (hr.step hstep)
      exact ⟨k + 1, by omega, t, (runs_succ k hstep).symm ▸ hrest⟩

theorem execOpsLeft_le (n : Nat) (s : State) : execOpsLeft n s ≤ n := by
  unfold execOpsLeft
  split_ifs <;> omega

/-- TXF has the most micro-operations left with an operand of 255 at TF_DRIVE. -/
theorem txfOpsLeft_le (m : Byte) (s : State) : txfOpsLeft m s ≤ 4086 := by
  have hm : m.toNat < 256 := m.isLt
  have hpending := opPending_le s
  have hbits : bitsLeft m s ≤ 8 * m.toNat := Nat.sub_le _ _
  unfold txfOpsLeft
  split <;> omega

theorem txaOpsLeft_le (s : State) : txaOpsLeft s ≤ 19 := by
  have hpending := opPending_le s
  have hbits : ackBitsLeft s.bitIdx s.phase ≤ 8 := by
    unfold ackBitsLeft
    split_ifs <;> omega
  unfold txaOpsLeft
  split <;> omega

/-- In a legal configuration no command has more micro-operations left than the longest TXF (R5). -/
theorem opsLeft_le (i : Instr) {s : State} (hc : s.cfg.wf = true) : opsLeft i s ≤ 4086 := by
  have hcap := payloadCap_le hc
  cases i
  case txf m => exact txfOpsLeft_le m s
  case txa a => exact (txaOpsLeft_le s).trans (by decide)
  case clr | blds => exact (execOpsLeft_le _ s).trans (by unfold bufCap; omega)
  case vfy => exact (execOpsLeft_le _ s).trans (by omega)
  all_goals exact (execOpsLeft_le 1 s).trans (by decide)

/-- No delay is longer than two holds (R21). -/
theorem DeviceInv.dlyCnt_le {s : State} (hs : DeviceInv s) : s.dlyCnt ≤ 2 * holdTicks s.cfg := by
  by_cases hd : s.dlyCnt = 0
  · omega
  · obtain ⟨-, hle⟩ := hs.delay hd
    exact hle

/-- Settles O53: a tick leaves fewer ticks, and the micro-operations and the delay of any state bound them. -/
theorem boundedCommandsFinish : Obligations.BoundedCommandsFinish := by
  intro s hs hb hop hr
  obtain ⟨i, ha, -⟩ := hs.running hb
  have hi : ¬ waitsForBus i := by
    rintro (rfl | rfl) <;> exact hop (by rw [opField_of_decode ha.word]; simp [encode])
  have hops : (2 + holdTicks s.cfg) * opsLeft i s ≤ (2 + holdTicks s.cfg) * 4086 :=
    Nat.mul_le_mul_left _ (opsLeft_le i hs.cfg)
  have hdly := hs.dlyCnt_le
  refine finishes_within hi hs hb ha.word ?_ hr
  unfold ticksLeft
  omega

end Sys2Proof.Machine

/-! ## A host's moves (spec/45_session_host.md R165 to R169; spec/70_reset_and_hazards.md R203)

`Session.move` in each phase in which the host decides, and what a tick of the host comes to. -/

namespace Sys2Proof.Machine

section

variable {h : Session} {read : BitVec 4 → Byte} {n : Byte}

theorem Session.move_startUp (hp : h.phase = .startUp) : h.move read = h.bindFirst := by
  simp only [Session.move, hp]

theorem Session.move_testBound (hp : h.phase = .testBound) :
    h.move read = if read 0x0 = 0x02 then h.start else h.bindFirst := by
  simp only [Session.move, hp]

theorem Session.move_testAck (hp : h.phase = .testAck n) :
    h.move read = if read 0x2 = ackAccept then h.return [] else h.offer (.txf (n + 3)) (.awaitAck n) := by
  simp only [Session.move, hp]

theorem Session.move_testFrame (hp : h.phase = .testFrame) :
    h.move read = if (read 0x0).getLsbD 5 then h.again
      else h.offer (.getb (read 0x1 + 2)) (.testAddress (read 0x1)) := by
  simp only [Session.move, hp]

theorem Session.move_testAddress (hp : h.phase = .testAddress n) :
    h.move read = if read 0x3 = read 0x6 then h.offer .vfy (.testChecksum n) else h.again := by
  simp only [Session.move, hp]

theorem Session.move_testChecksum (hp : h.phase = .testChecksum n) :
    h.move read = if (read 0x0).getLsbD 2 then h.offer (.txa ackAccept) (.extract n)
      else h.offer (.txa ackReject) .discard := by
  simp only [Session.move, hp]

end

theorem Session.start_of_noJobs {h : Session} (hj : h.jobs = []) :
    h.start = (none, { h with phase := .between, current := none }) := by
  simp only [Session.start, hj]

theorem Session.start_of_job {h : Session} {j : Job} {js : List Job} (hj : h.jobs = j :: js) :
    h.start = ({ h with current := some j, jobs := js }).begin j := by
  simp only [Session.start, hj]

/-- The first command of a job is BIND, BLDS or CLR (R166, R167, R171). -/
theorem Session.start_offers {h : Session} {i : Instr} (hi : h.start.1 = some i) :
    i = .bind ∨ i = .blds ∨ i = .clr := by
  cases hj : h.jobs with
  | nil =>
    rw [Session.start_of_noJobs hj] at hi
    cases hi
  | cons j js =>
    rw [Session.start_of_job hj] at hi
    cases j <;> cases hi <;> simp

/-- The start of a job returns no text. -/
theorem Session.start_returned (h : Session) : h.start.2.returned = h.returned := by
  cases hj : h.jobs with
  | nil => rw [Session.start_of_noJobs hj]
  | cons j js =>
    rw [Session.start_of_job hj]
    cases j <;> rfl

/-- In a tick a host lets time pass where it stands, or, when BUSY = 0, it moves (R165). -/
theorem Session.tick_cases (h : Session) (ready : Bool) (read : BitVec 4 → Byte) :
    (h.tick ready read).1 = none ∧ (h.tick ready read).2.phase = h.phase ∨
      ∃ w, h.tick ready read = ({ h with wait := w }).move read := by
  cases ready with
  | false => exact .inl ⟨rfl, rfl⟩
  | true =>
    obtain ⟨phase, current, jobs, redo, wait, returned⟩ := h
    rcases wait with _ | ⟨_ | k, w⟩
    · exact .inr ⟨[], rfl⟩
    · exact .inr ⟨w, rfl⟩
    · exact .inl ⟨rfl, rfl⟩

end Sys2Proof.Machine

/-! ## The start-up of a host (spec/45_session_host.md R171; spec/70_reset_and_hazards.md R203) -/

namespace Sys2Proof.Machine

/-- The start-up is still to run or to be found done (R203). -/
def Session.startingUp (h : Session) : Prop := h.phase = .startUp ∨ h.phase = .testBound

theorem Node.startsUpFirst_iff {n : Node} : n.startsUpFirst ↔ n.host.startingUp ∨ n.dev.bound = true :=
  or_assoc.symm

/-- A host at its start-up offers BIND, or it goes on to its jobs after STATUS = 0x02 (R203). -/
theorem Session.startingUp.move {h : Session} (hh : h.startingUp) (read : BitVec 4 → Byte) :
    h.move read = h.bindFirst ∨ read 0x0 = 0x02 ∧ h.move read = h.start := by
  rcases hh with hp | hp
  · exact .inl (Session.move_startUp hp)
  · rw [Session.move_testBound hp]
    by_cases hstatus : read 0x0 = 0x02
    · exact .inr ⟨hstatus, if_pos hstatus⟩
    · exact .inl (if_neg hstatus)

/-- What a host at its start-up offers is no line command, for its jobs begin with none either. -/
theorem Session.startingUp.offers_noLine {h : Session} (hh : h.startingUp) {read : BitVec 4 → Byte}
    {i : Instr} (hi : (h.move read).1 = some i) : isLineCommand i = false := by
  rcases hh.move read with he | ⟨-, he⟩ <;> rw [he] at hi
  · cases hi
    rfl
  · obtain rfl | rfl | rfl := Session.start_offers hi <;> rfl

theorem Session.startingUp.tick_noLine {h : Session} (hh : h.startingUp) {ready : Bool}
    {read : BitVec 4 → Byte} {i : Instr} (hi : (h.tick ready read).1 = some i) :
    isLineCommand i = false := by
  rcases h.tick_cases ready read with ⟨hnone, -⟩ | ⟨w, he⟩
  · simp [hnone] at hi
  · rw [he] at hi
    exact Session.startingUp.offers_noLine (h := { h with wait := w }) hh hi

/-- A host does not leave its start-up but on STATUS = 0x02. -/
theorem Session.startingUp.tick {h : Session} (hh : h.startingUp) (ready : Bool)
    (read : BitVec 4 → Byte) : (h.tick ready read).2.startingUp ∨ read 0x0 = 0x02 := by
  rcases h.tick_cases ready read with ⟨-, hphase⟩ | ⟨w, he⟩
  · exact .inl (by rwa [Session.startingUp, hphase])
  · rw [he]
    rcases Session.startingUp.move (h := { h with wait := w }) hh read with hbind | ⟨hstatus, -⟩
    · rw [hbind]
      exact .inl (.inr rfl)
    · exact .inr hstatus

/-- Bit 1 of STATUS is BOUND at all times (R24, R27). -/
theorem bound_of_status {s : State} (h : readPort s 0x0 = 0x02) : s.bound = true := by
  obtain ⟨-, hbound, -⟩ := statusByte_bits s
  calc s.bound = (readExact s 0x0).getLsbD 1 := hbound.symm
    _ = (readPort s 0x0).getLsbD 1 := (readPort_getLsbD rfl).symm
    _ = true := by rw [h]; rfl

/-- A reset tick of a node resets its device and puts its host back to the start-up (R200, R203). -/
theorem Node.tick_reset {n : Node} (others : List Pads) (hr : n.dev.port.rst = true) :
    n.tick others =
      .next ⟨((n.dev.seeing others).offering none).resetTick.endTick, n.host.cutOff⟩ := by
  have hmove : n.hostMove (n.dev.seeing others) = (none, n.host.cutOff) := Node.hostMove_reset hr
  have hwork : ((n.dev.seeing others).offering none).work = .reset := if_pos hr
  unfold Node.tick
  simp only [hmove, step, hwork]

/-- A tick keeps the invariant: a reset sends the host back to its start-up, STATUS = 0x02 ends the start-up
at a bound device only, and nothing but a reset clears BOUND. -/
theorem Node.startsUpFirst.tick {n n' : Node} {others : List Pads} (hn : n.startsUpFirst)
    (h : n.tick others = .next n') : n'.startsUpFirst := by
  cases hr : n.dev.port.rst with
  | true =>
    rw [Node.tick_reset others hr] at h
    cases h
    exact .inl rfl
  | false =>
    obtain ⟨hstep, hhost⟩ := Node.tick_next others h
    rw [Node.hostMove_run (d := n.dev.seeing others) hr] at hhost
    have hkeep (hb : n.dev.bound = true) : n'.dev.bound = true :=
      step_bound (by simpa using hr) (by simpa using hb) hstep
    rw [Node.startsUpFirst_iff, hhost]
    rcases Node.startsUpFirst_iff.mp hn with hup | hb
    · exact (hup.tick _ _).imp_right fun hstatus => hkeep (by simpa using bound_of_status hstatus)
    · exact .inr (hkeep hb)

/-- In a node with the invariant the host offers a line command to a bound device only (R172). -/
theorem Node.startsUpFirst.bound_of_line {n : Node} (hn : n.startsUpFirst) {d : State} {i : Instr}
    (hi : (n.hostMove d).1 = some i) (hline : isLineCommand i = true) : n.dev.bound = true := by
  cases hr : d.port.rst with
  | true => simp [Node.hostMove_reset hr] at hi
  | false =>
    rw [Node.hostMove_run hr] at hi
    refine (Node.startsUpFirst_iff.mp hn).resolve_left fun hup => ?_
    simp [hup.tick_noLine hi] at hline

/-- Settles O58: the moves at the start-up, the reset tick of a node, and the invariant with its use. -/
theorem hostStartsUpFirst : Obligations.HostStartsUpFirst :=
  ⟨fun _ _ _ _ _ => .inl rfl, fun _ _ hp => Session.move_startUp hp,
    fun _ _ hp hstatus => (Session.move_testBound hp).trans (if_pos hstatus),
    fun _ others hr => ⟨_, Node.tick_reset others hr, rfl, rfl, rfl⟩, fun _ _ _ hn h => hn.tick h,
    fun _ _ _ hn hi hline => hn.bound_of_line hi hline⟩

end Sys2Proof.Machine

/-! ## The decisions of `send` and `receive` (spec/45_session_host.md R166 to R169) -/

namespace Sys2Proof.Machine

/-- The return of a job adds its text to those returned (R166, R167). -/
theorem Session.return_returned (h : Session) (text : List Byte) :
    (h.return text).2.returned = h.returned ++ [text] := Session.start_returned _

/-- After a return no frame is transmitted before another job has begun (R166). -/
theorem Session.return_noTxf (h : Session) (text : List Byte) (m : Byte) :
    (h.return text).1 ≠ some (.txf m) := by
  intro hi
  have hfirst := Session.start_offers hi
  simp at hfirst

/-- With no job left a return offers nothing. -/
theorem Session.return_of_noJobs (h : Session) (text : List Byte) (hj : h.jobs = []) :
    h.return text =
      (none, { h with phase := .between, current := none, returned := h.returned ++ [text] }) :=
  Session.start_of_noJobs (h := { h with returned := h.returned ++ [text] }) hj

/-- Settles O57: each decision is the move of its phase with the test read from the port. -/
theorem hostDecisions : Obligations.HostDecisions := by
  intro h read n
  refine ⟨fun hp hack => (Session.move_testAck hp).trans (if_neg hack), fun hp hack => ?accepted,
    fun hp hshort => (Session.move_testFrame hp).trans (if_pos hshort),
    fun hp hshort => (Session.move_testFrame hp).trans (if_neg (Bool.eq_false_iff.mp hshort)),
    fun hp haddr => (Session.move_testAddress hp).trans (if_neg haddr),
    fun hp haddr => (Session.move_testAddress hp).trans (if_pos haddr),
    fun hp hcsok => (Session.move_testChecksum hp).trans (if_pos hcsok),
    fun hp hcsok => (Session.move_testChecksum hp).trans (if_neg (Bool.eq_false_iff.mp hcsok))⟩
  have hmove : h.move read = h.return [] := (Session.move_testAck hp).trans (if_pos hack)
  rw [hmove]
  refine ⟨h.return_returned [], h.return_noTxf [], fun hj => ?_⟩
  rw [h.return_of_noJobs [] hj]
  exact ⟨rfl, rfl⟩

end Sys2Proof.Machine

/-! ## The word on the queue of a device with a host (spec/45_session_host.md R165; log 3) -/

namespace Sys2Proof.Machine

/-- The device with the word `w`, valid or not, at the head of its input queue. -/
def State.showing (s : State) (v : Bool) (w : CmdWord) : State :=
  { s with env := { s.port with cmdValid := v, cmd := w } :: s.env.tail }

variable (s : State) (v : Bool) (w : CmdWord)

theorem State.showing_seeing (others : List Pads) :
    (s.showing v w).seeing others = (s.seeing others).showing v w := rfl

/-- What the host offers, or that it offers nothing, replaces the word of the queue. -/
theorem State.showing_offering (o : Option Instr) : (s.showing v w).offering o = s.offering o := by
  cases o <;> rfl

theorem readPort_showing : readPort (s.showing v w) = readPort s := rfl

/-- The host looks at the read port, at `cmd_ready` and for a reset, not at the word (R165). -/
theorem Node.hostMove_showing (n : Node) (d : State) :
    n.hostMove (d.showing v w) = n.hostMove d := by
  unfold Node.hostMove
  rw [readPort_showing]
  rfl

/-- The tick of a node is the same whatever word the queue of its device shows. -/
theorem Node.tick_showing (n : Node) (others : List Pads) :
    ({ n with dev := n.dev.showing v w } : Node).tick others = n.tick others := by
  have hmove : ({ n with dev := n.dev.showing v w } : Node).hostMove ((n.dev.seeing others).showing v w) =
      n.hostMove (n.dev.seeing others) := Node.hostMove_showing v w n _
  unfold Node.tick
  simp only [State.showing_seeing, hmove, State.showing_offering]

/-- Settles O59: the word makes no difference to the host's move, and the move replaces it. -/
theorem onlyHostIssuesCommands : Obligations.OnlyHostIssuesCommands :=
  fun n others v w => Node.tick_showing v w n others

end Sys2Proof.Machine

/-! ## No tick reads ERR or ERRCODE (spec/60_exceptions.md R183, R184) -/

namespace Sys2Proof.Machine

/-- The state with other error registers. -/
def State.withError (s : State) (e : Bool) (c : BitVec 3) : State := { s with err := e, errCode := c }

section

variable (s : State) (e : Bool) (c : BitVec 3)

@[simp] theorem State.withError_st : (s.withError e c).st = s.st := rfl

theorem State.ite_withError (p : Prop) [Decidable p] (t : State) :
    (if p then s else t).withError e c = if p then s.withError e c else t.withError e c :=
  apply_ite (State.withError · e c) p s t

theorem afterDelay_withError (i : Instr) :
    afterDelay i (s.withError e c) = (afterDelay i s).withError e c := by
  cases i with
  | txf m =>
    simp only [afterDelay, txfAfter, State.withError_st]
    cases s.st
    case tfStartHi | tfBitClock | tfForce => dsimp only [txfLoop]; rw [State.ite_withError]; rfl
    all_goals rfl
  | txa a =>
    simp only [afterDelay, txaAfter, State.withError_st]
    cases s.st
    case taBitClock => dsimp only; rw [State.ite_withError]; rfl
    all_goals rfl
  | rxf =>
    simp only [afterDelay, rxfAfter, State.withError_st]
    cases s.st <;> rfl
  | _ => rfl

theorem countDown_withError (i : Instr) :
    (s.withError e c).countDown (afterDelay i) = (s.countDown (afterDelay i)).withError e c := by
  unfold State.countDown
  rw [State.ite_withError, ← afterDelay_withError]
  rfl

variable {s e c} {u : State}

/-! The rules for the operations that the micro-operations share take the equation of the two states as a
hypothesis: the writes before the operation keep it by `rfl`. -/

theorem delay_withError {i : Instr} {n : Nat} (hu : u = s.withError e c) :
    u.delay n (afterDelay i) = (s.delay n (afterDelay i)).withError e c := by
  subst hu
  unfold State.delay
  rw [State.ite_withError, ← afterDelay_withError]
  rfl

theorem txfHold_withError {m : Byte} (hu : u = s.withError e c) :
    txfHold m u = onNext (·.withError e c) (txfHold m s) := by
  subst hu
  exact congrArg _ (delay_withError (i := .txf m) rfl)

theorem clearTick_withError (hu : u = s.withError e c) :
    clearTick u = onNext (·.withError e c) (clearTick s) := by
  subst hu
  unfold clearTick
  dsimp only
  rw [onNext_withIndex, onNext, State.ite_withError]
  rfl

variable (s e c)

/-! ### The codec -/

theorem bldsTick_withError : bldsTick (s.withError e c) = onNext (·.withError e c) (bldsTick s) := by
  refine clearTick_withError ?_
  rw [State.ite_withError]
  rfl

theorem vfyTick_withError : vfyTick (s.withError e c) = onNext (·.withError e c) (vfyTick s) := by
  unfold vfyTick
  rw [onNext_ite, onNext_withIndex, onNext_withIndex]
  rfl

theorem putbTick_withError (b : Byte) : putbTick b (s.withError e c) = (putbTick b s).withError e c := by
  unfold putbTick
  dsimp only
  rw [State.ite_withError]
  rfl

theorem inExec_withError {uop : State → Answer}
    (hu : uop (s.withError e c) = onNext (·.withError e c) (uop s)) :
    inExec uop (s.withError e c) = onNext (·.withError e c) (inExec uop s) := by
  simp only [inExec, State.withError_st]
  cases s.st
  case exec => exact hu
  all_goals rfl

/-! ### The line commands -/

theorem txfUop_withError (m : Byte) :
    txfUop m (s.withError e c) = onNext (·.withError e c) (txfUop m s) := by
  simp only [txfUop, State.withError_st]
  cases s.st
  case tfDrive | tfStartLo | tfStartHi | tfBitClock | tfForce | tfNorm | tfStopLo | tfStopHi =>
    exact txfHold_withError rfl
  case tfBitData => dsimp only; rw [onNext_withIndex]; rfl
  all_goals rfl

theorem txaUop_withError (a : Byte) :
    txaUop a (s.withError e c) = onNext (·.withError e c) (txaUop a s) := by
  simp only [txaUop, State.withError_st]
  cases s.st
  case taDrive | taBitClock => exact congrArg Host.Outcome.next (delay_withError (i := .txa a) rfl)
  all_goals rfl

theorem rxfStore_withError : rxfStore (s.withError e c) = (rxfStore s).withError e c := by
  unfold rxfStore rxfGuard
  rw [State.ite_withError]
  rfl

theorem rxfUop_withError : rxfUop (s.withError e c) = onNext (·.withError e c) (rxfUop s) := by
  simp only [rxfUop, State.withError_st]
  cases s.st
  case rfAwaitData | rfAwaitClock => dsimp only [onNext]; rw [State.ite_withError]; rfl
  case rfEdgeWait =>
    have hsettle : rxfSettle (s.sample2.withError e c) = (rxfSettle s.sample2).withError e c :=
      delay_withError (i := .rxf) rfl
    dsimp only [onNext]
    rw [State.ite_withError, ← hsettle]
    rfl
  case rfSettle => exact congrArg _ (afterDelay_withError s e c .rxf)
  case rfSample =>
    dsimp only [rxfDecide]
    rw [onNext_ite, onNext_withIndex, onNext, onNext, ← rxfStore_withError]
    rfl
  all_goals rfl

theorem rxaUop_withError : rxaUop (s.withError e c) = onNext (·.withError e c) (rxaUop s) := by
  simp only [rxaUop, State.withError_st]
  cases s.st
  case raAwaitClock =>
    dsimp only [onNext, rxaStore]
    rw [State.ite_withError, State.ite_withError]
    rfl
  all_goals rfl

/-- A micro-operation neither reads nor writes the error registers. -/
theorem microOp_withError (i : Instr) :
    microOp i (s.withError e c) = onNext (·.withError e c) (microOp i s) := by
  cases i <;> dsimp only [microOp]
  case txf m => exact txfUop_withError s e c m
  case txa a => exact txaUop_withError s e c a
  case rxf => exact rxfUop_withError s e c
  case rxa => exact rxaUop_withError s e c
  all_goals apply inExec_withError
  case clr => exact clearTick_withError rfl
  case blds => exact bldsTick_withError s e c
  case vfy => exact vfyTick_withError s e c
  case putb b => rw [putbTick_withError]; rfl
  case blde | getb => rw [onNext_withIndex]; rfl
  all_goals rfl

/-! ### A whole tick -/

/-- Acceptance goes the same of its three ways; a refusal writes the error registers, by R183. -/
theorem accept_withError (i : Instr) :
    ∃ e' c', (s.withError e c).accept i = (s.accept i).withError e' c' := by
  rcases s.accept_cases i with ⟨hline, hb, ha⟩ | ⟨hb, hc, ha⟩ | ⟨hb, hc, ha⟩ <;> rw [ha]
  · exact ⟨_, _, accept_notBound (s := s.withError e c) hline hb⟩
  · rw [inRange_eq_wf] at hc
    exact ⟨_, _, accept_outOfRange (s := s.withError e c) hb hc⟩
  · rw [inRange_eq_wf] at hc
    exact ⟨e, c, accept_passed (s := s.withError e c) hb hc⟩

/-- A tick of a command from other error registers is the same tick but for these two. -/
theorem exec_withError (i : Instr) :
    ∃ e' c', exec i (s.withError e c) = onNext (·.withError e' c') (exec i s) := by
  rw [exec_eq_commandTick i s]
  rcases commandTick_cases i (afterDelay i) (microOp i) s with
    ⟨hb, he⟩ | ⟨hb, hd, he⟩ | ⟨hb, hd, he⟩ <;> rw [he]
  · obtain ⟨e', c', ha⟩ := accept_withError s e c i
    exact ⟨e', c', by rw [exec_idle i (s := s.withError e c) hb, ha]; rfl⟩
  · exact ⟨e, c, by rw [exec_uop i (s := s.withError e c) hb hd, microOp_withError]⟩
  · exact ⟨e, c, by rw [exec_countDown i (s := s.withError e c) hb hd, countDown_withError]; rfl⟩

/-- A step from other error registers is the same step but for these two (R184). -/
theorem step_withError : ∃ e' c', step (s.withError e c) = onNext (·.withError e' c') (step s) := by
  have hwork : (s.withError e c).work = s.work := rfl
  unfold step
  rw [hwork]
  cases s.work with
  | command i =>
    obtain ⟨e', c', he⟩ := exec_withError s e c i
    refine ⟨e', c', ?_⟩
    dsimp only
    rw [he]
    cases exec i s <;> rfl
  | reset => exact ⟨_, _, rfl⟩
  | badWord err => exact ⟨_, _, rfl⟩
  | nothing => exact ⟨e, c, rfl⟩
  | stray => exact ⟨e, c, rfl⟩

end

/-! ### A set ERR stays with its code -/

/-- A refusal after the first changes neither ERR nor ERRCODE (R184). -/
theorem State.cmdError_sticky {s : State} (he : s.err = true) (x : CmdErr) :
    (s.cmdError x).err = true ∧ (s.cmdError x).errCode = s.errCode := by
  simp [he]

theorem exec_error_sticky {i : Instr} {s t : State} (he : s.err = true) (h : exec i s = .next t) :
    t.err = true ∧ t.errCode = s.errCode := by
  cases hb : s.busy
  · rw [exec_idle i hb] at h
    cases h
    rcases s.accept_cases i with ⟨-, -, ha⟩ | ⟨-, -, ha⟩ | ⟨-, -, ha⟩ <;> rw [ha]
    · exact State.cmdError_sticky he .notBound
    · exact State.cmdError_sticky he .range
    · exact ⟨he, rfl⟩
  · obtain ⟨-, herr, hcode⟩ := exec_busy_keeps hb h
    exact ⟨herr.trans he, hcode⟩

theorem step_error_sticky {s t : State} (hr : s.port.rst = false) (he : s.err = true)
    (h : step s = .next t) : t.err = true ∧ t.errCode = s.errCode := by
  rcases step_next h with ⟨hw, -⟩ | ⟨i, u, -, hu, rfl⟩ | ⟨x, -, rfl⟩ | ⟨-, rfl⟩
  · simp [State.port_rst_of_work hw] at hr
  · exact exec_error_sticky (t := u) he hu
  · exact State.cmdError_sticky he x
  · exact ⟨he, rfl⟩

/-- Settles O12: only a refusal or reset writes the error registers, and a refusal keeps them once ERR is
set; every other branch of a tick commutes with replacing them; the read port's mask keeps their entries. -/
theorem errorIsStickyAndHarmless : Obligations.ErrorIsStickyAndHarmless := by
  refine ⟨fun s t hr h he => step_error_sticky hr he h, fun s t e c h => ?_, fun s => ⟨?_, ?_⟩⟩
  · obtain ⟨e', c', hstep⟩ := step_withError s e c
    rw [h] at hstep
    exact ⟨_, hstep, rfl⟩
  · obtain ⟨-, -, herr⟩ := statusByte_bits s
    exact (readPort_getLsbD rfl).trans herr
  · exact readPort_exact rfl

end Sys2Proof.Machine

/-! ## A reset tick writes the reset values (spec/70_reset_and_hazards.md R200, R201) -/

namespace Sys2Proof.Machine

/-- The configuration, the two counters of the model and the inputs to come are no reset values. -/
theorem resetRegisters_resetOf (c : Config) (k n : Nat) (env : List PortIn) :
    resetRegisters (State.resetOf c k n env) where
  len := rfl
  sums := ⟨rfl, rfl⟩
  edge := ⟨rfl, rfl, rfl, rfl⟩
  position := ⟨rfl, rfl, rfl⟩
  results := ⟨rfl, rfl⟩
  lines := rfl
  sequencer := ⟨rfl, rfl, rfl⟩
  flags := ⟨rfl, rfl, rfl, rfl, rfl, rfl, rfl⟩
  errCode := rfl

/-- The end of a tick writes the inputs and the sample counter only. -/
theorem State.resetTick_endTick (s : State) :
    s.resetTick.endTick = State.resetOf s.cfg (s.draws + 1) (s.resets + 1) s.env.tail := rfl

/-- `rst = 1` overrides the running command and the port (R200). -/
theorem State.work_of_port_rst {s : State} (hr : s.port.rst = true) : s.work = .reset := if_pos hr

theorem step_reset {s : State} (hr : s.port.rst = true) :
    step s = .next (State.resetOf s.cfg (s.draws + 1) (s.resets + 1) s.env.tail) := by
  rw [step, State.work_of_port_rst hr, ← State.resetTick_endTick]

/-- Settles O7: State.reset and the state after a reset tick are both `resetOf` of some configuration. -/
theorem resetWritesResetValues : Obligations.ResetWritesResetValues :=
  ⟨resetRegisters_resetOf _ _ _ _,
    fun _ hr => ⟨_, step_reset hr, resetRegisters_resetOf _ _ _ _, rfl⟩⟩

end Sys2Proof.Machine

/-! ## A word on the command port of an idle core (spec/44_system.md R155; log 4) -/

namespace Sys2Proof

/-- The word of a table row names the command that the decoder reads from the port's word (R68, R70). -/
theorem decodeTableWord_eq_some {nbits w : Nat} {i : Instr} :
    decodeTableWord nbits w = some i ↔ decode (portWord nbits w) = .ok i := by
  unfold decodeTableWord
  cases decode (portWord nbits w) <;> simp

end Sys2Proof

namespace Sys2Proof.Machine

theorem State.withFetchWord_offers {s : State} {nbits w : Nat} {i : Instr}
    (h : decode (portWord nbits w) = .ok i) : (s.withFetchWord nbits w).offers i := ⟨rfl, h⟩

/-- Settles O6: the core is idle, without reset, and offered the word's command. -/
theorem fetchedWordRuns : Obligations.FetchedWordRuns := fun _ _ _ _ h =>
  ⟨step_offers rfl rfl (State.withFetchWord_offers (decodeTableWord_eq_some.mp h)), rfl⟩

end Sys2Proof.Machine

/-! ## The bytes after a reset tick (spec/10_state.md R33; spec/70_reset_and_hazards.md R201; log 6) -/

namespace Sys2Proof.Machine

/-- An unlisted byte reads as the free value of its device and reset epoch (log 6). -/
theorem State.byteAt_of_buf_nil {s : State} (h : s.buf = []) (a : Nat) :
    s.byteAt a = Config.unwrittenByte s.cfg.device s.resets a := by
  rw [State.byteAt, h]
  rfl

/-- Settles O8: `resetOf` lists no byte, and a reset tick begins the next epoch of the same device. -/
theorem resetForgetsBuffer : Obligations.ResetForgetsBuffer := fun _ hr =>
  ⟨_, step_reset hr, rfl, State.byteAt_of_buf_nil rfl⟩

end Sys2Proof.Machine

/-! ## The canonical form of the buffer list (spec/20_memory.md section 2; log 24)

BUF is written by stores only, and a store keeps the form (`Memory.wf_store`), whatever its index. -/

namespace Sys2Proof.Machine

theorem clearTick_wf {s t : State} (hs : Memory.wf s.buf = true) (h : clearTick s = .next t) :
    Memory.wf t.buf = true := by
  obtain ⟨-, ⟨-, rfl⟩ | rfl⟩ := clearTick_next h
  · exact Memory.wf_store _ _ hs
  · exact Memory.wf_store _ _ hs

theorem bldsTick_wf {s t : State} (hs : Memory.wf s.buf = true) (h : bldsTick s = .next t) :
    Memory.wf t.buf = true := by
  unfold bldsTick at h
  split_ifs at h
  · exact clearTick_wf (s := { s with len := 0, sum1 := 0, sum2 := 0 }) hs h
  · exact clearTick_wf hs h

theorem putbTick_wf {s : State} (hs : Memory.wf s.buf = true) (b : Byte) :
    Memory.wf (putbTick b s).buf = true := by
  unfold putbTick
  split_ifs
  · exact Memory.wf_store _ _ hs
  · exact hs

theorem bldeTick_wf {s : State} (hs : Memory.wf s.buf = true) (d : Byte) :
    Memory.wf (bldeTick d s).buf = true :=
  Memory.wf_store _ _ (Memory.wf_store _ _ (Memory.wf_store _ _ hs))

/-- A stop condition stores nothing, any other sample one byte (R128, R129). -/
theorem rxfDecide_wf {s t : State} (hs : Memory.wf s.buf = true) (h : rxfDecide s = .next t) :
    Memory.wf t.buf = true := by
  unfold rxfDecide at h
  split_ifs at h
  · cases h
    exact hs
  · obtain ⟨-, h⟩ := withIndex_next.mp h
    cases h
    rw [rxfStore_eq, rxfGuard_frame]
    exact Memory.wf_store _ _ hs

/-- RXF stores in RF_SAMPLE only (R129, R133). -/
theorem rxfUop_buf {s t : State} (hst : s.st ≠ .rfSample) (h : rxfUop s = .next t) : t.buf = s.buf := by
  cases hq : s.st <;> simp only [rxfUop, hq] at h
  case rfSample => exact absurd hq hst
  all_goals cases h
  case rfAwaitData | rfAwaitClock => split_ifs <;> rfl
  case rfEdgeWait =>
    split_ifs
    · rw [rxfSettle_frame]
      rfl
    · rfl
  case rfSettle => rw [show rxfAfter = afterDelay .rxf from rfl, afterDelay_frame]
  all_goals rfl

theorem rxfUop_wf {s t : State} (hs : Memory.wf s.buf = true) (h : rxfUop s = .next t) :
    Memory.wf t.buf = true := by
  by_cases hst : s.st = .rfSample
  · simp only [rxfUop, hst] at h
    exact rxfDecide_wf (s := s.sample2) hs h
  · rw [rxfUop_buf hst h]
    exact hs

/-- A micro-operation of state EXEC keeps the form when it does in its own state (log 20). -/
theorem inExec_wf {uop : State → Answer} {s t : State} (hs : Memory.wf s.buf = true)
    (hu : uop s = .next t → Memory.wf t.buf = true) (h : inExec uop s = .next t) :
    Memory.wf t.buf = true := by
  rcases inExec_next h with h | rfl
  · exact hu h
  · exact hs

/-- Every micro-operation keeps the form: the storing ones by their stores, the others the whole list. -/
theorem microOp_wf {i : Instr} {s t : State} (hs : Memory.wf s.buf = true) (h : microOp i s = .next t) :
    Memory.wf t.buf = true := by
  cases i
  case clr => exact inExec_wf hs (clearTick_wf hs) h
  case blds => exact inExec_wf hs (bldsTick_wf hs) h
  case putb b =>
    dsimp only [microOp] at h
    refine inExec_wf hs (fun h => ?_) h
    cases h
    exact putbTick_wf hs b
  case blde d =>
    dsimp only [microOp] at h
    refine inExec_wf hs (fun h => ?_) h
    obtain ⟨-, h⟩ := withIndex_next.mp h
    cases h
    exact bldeTick_wf hs d
  case rxf => exact rxfUop_wf hs h
  case setl b | getb b | txf b | txa b =>
    rw [microOp_buf ⟨b, by simp⟩ h]
    exact hs
  case nop | bind | vfy | rxa =>
    rw [microOp_buf ⟨0, by simp⟩ h]
    exact hs

/-- Settles O54: acceptance and a delay leave the list, and every micro-operation keeps its form. -/
theorem execKeepsMemoryForm : Obligations.ExecKeepsMemoryForm := by
  intro i s t hs h
  rcases exec_next h with ⟨-, rfl⟩ | ⟨-, -, hu⟩ | ⟨-, -, rfl⟩
  · obtain ⟨-, -, -, hbuf⟩ := accept_keeps s i
    rwa [hbuf]
  · exact microOp_wf hs hu
  · obtain ⟨-, -, -, hbuf⟩ := countDown_keeps i s
    rwa [hbuf]

end Sys2Proof.Machine
